-- ==== Sys2Proof/Word.lean ====
section
/-! DEFINITION. The machine's words (10_state.md R22; 20_memory.md R40, R44). -/

namespace Sys2Proof

/-- The contents of a general register, and a data address (R22, R40). -/
abbrev Word := BitVec 64

/-- The low half of a register: the operand of classes ALU and JMP32 (R22). -/
abbrev Half := BitVec 32

/-- One byte of data memory or of the program's byte image. -/
abbrev Byte := BitVec 8

end Sys2Proof
end

