-- ==== Sys2Proof/Syntax.lean ====
section
/-! DEFINITION. The instruction syntax: one constructor of `Instr` per row of spec/opcode_table.json
(30_encoding.md R78-R80, R86), and the 64-bit slot a program is a list of (30_encoding.md R60, R62).

A constructor carries the fields its row leaves free, in the order dst_reg (d), src_reg (s), offset (off),
imm, next_imm; every field with a fixed value in the row is fixed by the constructor. -/

namespace Sys2Proof

/-- A 4-bit register field (R64). Whether its value names a register (0 .. 10) is checked in `WellFormed`. -/
abbrev RegNum := BitVec 4

/-- The 16-bit offset field as a pattern (R62, R68). -/
abbrev Offset := BitVec 16

/-- A 32-bit immediate field, imm or next_imm, as a pattern (R62, R68, R71). -/
abbrev Imm := BitVec 32

/-- One 64-bit slot of PROGRAM as its eight bytes in address order (10_state.md R25, R27; 30_encoding.md R60, R62). -/
structure Slot where
  b0 : Byte
  b1 : Byte
  b2 : Byte
  b3 : Byte
  b4 : Byte
  b5 : Byte
  b6 : Byte
  b7 : Byte
deriving DecidableEq, Repr, Inhabited

/-- The 171 instructions of spec/opcode_table.json, in the table's order. -/
inductive Instr where
  /-- ADD_ALU_K, R112: dst = (u32)((u32)dst + (u32)imm) -/
  | addAluK (d : RegNum) (imm : Imm)
  /-- ADD_ALU_X, R113: dst = (u32)((u32)dst + (u32)src) -/
  | addAluX (d : RegNum) (s : RegNum)
  /-- ADD_ALU64_K, R114: dst += imm -/
  | addAlu64K (d : RegNum) (imm : Imm)
  /-- ADD_ALU64_X, R115: dst += src -/
  | addAlu64X (d : RegNum) (s : RegNum)
  /-- SUB_ALU_K, R116: dst = (u32)((u32)dst - (u32)imm) -/
  | subAluK (d : RegNum) (imm : Imm)
  /-- SUB_ALU_X, R117: dst = (u32)((u32)dst - (u32)src) -/
  | subAluX (d : RegNum) (s : RegNum)
  /-- SUB_ALU64_K, R118: dst -= imm -/
  | subAlu64K (d : RegNum) (imm : Imm)
  /-- SUB_ALU64_X, R119: dst -= src -/
  | subAlu64X (d : RegNum) (s : RegNum)
  /-- MUL_ALU_K, R120: dst = (u32)(dst * imm) -/
  | mulAluK (d : RegNum) (imm : Imm)
  /-- MUL_ALU_X, R121: dst = (u32)(dst * src) -/
  | mulAluX (d : RegNum) (s : RegNum)
  /-- MUL_ALU64_K, R122: dst *= imm -/
  | mulAlu64K (d : RegNum) (imm : Imm)
  /-- MUL_ALU64_X, R123: dst *= src -/
  | mulAlu64X (d : RegNum) (s : RegNum)
  /-- DIV_ALU_K, R124: dst = (u32)((imm != 0) ? ((u32)dst / (u32)imm) : 0) -/
  | divAluK (d : RegNum) (imm : Imm)
  /-- DIV_ALU_X, R125: dst = (u32)((src != 0) ? ((u32)dst / (u32)src) : 0) -/
  | divAluX (d : RegNum) (s : RegNum)
  /-- DIV_ALU64_K, R126: dst = (imm != 0) ? (dst / (u64)(s64)imm) : 0 (90_conflicts.md C5) -/
  | divAlu64K (d : RegNum) (imm : Imm)
  /-- DIV_ALU64_X, R127: dst = (src != 0) ? (dst / src) : 0 -/
  | divAlu64X (d : RegNum) (s : RegNum)
  /-- SDIV_ALU_K, R128: dst = (u32)((imm != 0) ? ((s32)dst s/ imm) : 0) -/
  | sdivAluK (d : RegNum) (imm : Imm)
  /-- SDIV_ALU_X, R129: dst = (u32)((src != 0) ? ((s32)dst s/(s32)src) : 0) -/
  | sdivAluX (d : RegNum) (s : RegNum)
  /-- SDIV_ALU64_K, R130: dst = (imm != 0) ? (dst s/ imm) : 0 -/
  | sdivAlu64K (d : RegNum) (imm : Imm)
  /-- SDIV_ALU64_X, R131: dst = (src != 0) ? (dst s/ src) : 0 -/
  | sdivAlu64X (d : RegNum) (s : RegNum)
  /-- OR_ALU_K, R132: dst = (u32)(dst | imm) -/
  | orAluK (d : RegNum) (imm : Imm)
  /-- OR_ALU_X, R133: dst = (u32)(dst | src) -/
  | orAluX (d : RegNum) (s : RegNum)
  /-- OR_ALU64_K, R134: dst |= imm -/
  | orAlu64K (d : RegNum) (imm : Imm)
  /-- OR_ALU64_X, R135: dst |= src -/
  | orAlu64X (d : RegNum) (s : RegNum)
  /-- AND_ALU_K, R136: dst = (u32)(dst & imm) -/
  | andAluK (d : RegNum) (imm : Imm)
  /-- AND_ALU_X, R137: dst = (u32)(dst & src) -/
  | andAluX (d : RegNum) (s : RegNum)
  /-- AND_ALU64_K, R138: dst &= imm -/
  | andAlu64K (d : RegNum) (imm : Imm)
  /-- AND_ALU64_X, R139: dst &= src -/
  | andAlu64X (d : RegNum) (s : RegNum)
  /-- LSH_ALU_K, R140: dst = (u32)(dst << imm) -/
  | lshAluK (d : RegNum) (imm : Imm)
  /-- LSH_ALU_X, R141: dst = (u32)(dst << src) -/
  | lshAluX (d : RegNum) (s : RegNum)
  /-- LSH_ALU64_K, R142: dst <<= imm -/
  | lshAlu64K (d : RegNum) (imm : Imm)
  /-- LSH_ALU64_X, R143: dst <<= src -/
  | lshAlu64X (d : RegNum) (s : RegNum)
  /-- RSH_ALU_K, R144: dst = (u32)(dst >> imm) -/
  | rshAluK (d : RegNum) (imm : Imm)
  /-- RSH_ALU_X, R145: dst = (u32)(dst >> src) -/
  | rshAluX (d : RegNum) (s : RegNum)
  /-- RSH_ALU64_K, R146: dst >>= imm -/
  | rshAlu64K (d : RegNum) (imm : Imm)
  /-- RSH_ALU64_X, R147: dst >>= src -/
  | rshAlu64X (d : RegNum) (s : RegNum)
  /-- NEG_ALU, R148: dst = (u32)-dst -/
  | negAlu (d : RegNum)
  /-- NEG_ALU64, R149: dst = -dst -/
  | negAlu64 (d : RegNum)
  /-- MOD_ALU_K, R150: dst = (u32)((imm != 0)?((u32)dst % (u32)imm) : dst) -/
  | modAluK (d : RegNum) (imm : Imm)
  /-- MOD_ALU_X, R151: dst = (u32)((src != 0)?((u32)dst % (u32)src) : dst) -/
  | modAluX (d : RegNum) (s : RegNum)
  /-- MOD_ALU64_K, R152: dst = (imm != 0) ? (dst % (u64)(s64)imm) : dst (90_conflicts.md C5) -/
  | modAlu64K (d : RegNum) (imm : Imm)
  /-- MOD_ALU64_X, R153: dst = (src != 0) ? (dst % src) : dst -/
  | modAlu64X (d : RegNum) (s : RegNum)
  /-- SMOD_ALU_K, R154: dst = (u32)((imm != 0) ? ((s32)dst s% imm) : dst) -/
  | smodAluK (d : RegNum) (imm : Imm)
  /-- SMOD_ALU_X, R155: dst = (u32)((src != 0)?((s32)dst s% (s32)src) :dst) -/
  | smodAluX (d : RegNum) (s : RegNum)
  /-- SMOD_ALU64_K, R156: dst = (imm != 0) ? (dst s% imm) : dst -/
  | smodAlu64K (d : RegNum) (imm : Imm)
  /-- SMOD_ALU64_X, R157: dst = (src != 0) ? (dst s% src) : dst -/
  | smodAlu64X (d : RegNum) (s : RegNum)
  /-- XOR_ALU_K, R158: dst = (u32)(dst ^ imm) -/
  | xorAluK (d : RegNum) (imm : Imm)
  /-- XOR_ALU_X, R159: dst = (u32)(dst ^ src) -/
  | xorAluX (d : RegNum) (s : RegNum)
  /-- XOR_ALU64_K, R160: dst ^= imm -/
  | xorAlu64K (d : RegNum) (imm : Imm)
  /-- XOR_ALU64_X, R161: dst ^= src -/
  | xorAlu64X (d : RegNum) (s : RegNum)
  /-- MOV_ALU_K, R162: dst = (u32) imm -/
  | movAluK (d : RegNum) (imm : Imm)
  /-- MOV_ALU_X, R163: dst = (u32) src -/
  | movAluX (d : RegNum) (s : RegNum)
  /-- MOV_ALU64_K, R164: dst = imm -/
  | movAlu64K (d : RegNum) (imm : Imm)
  /-- MOV_ALU64_X, R165: dst = src -/
  | movAlu64X (d : RegNum) (s : RegNum)
  /-- MOVSX8_ALU_X, R166: dst = (u32) (s32) (s8) src -/
  | movsx8AluX (d : RegNum) (s : RegNum)
  /-- MOVSX16_ALU_X, R167: dst = (u32) (s32) (s16) src -/
  | movsx16AluX (d : RegNum) (s : RegNum)
  /-- MOVSX8_ALU64_X, R168: dst = (s64) (s8) src -/
  | movsx8Alu64X (d : RegNum) (s : RegNum)
  /-- MOVSX16_ALU64_X, R169: dst = (s64) (s16) src -/
  | movsx16Alu64X (d : RegNum) (s : RegNum)
  /-- MOVSX32_ALU64_X, R170: dst = (s64) (s32) src -/
  | movsx32Alu64X (d : RegNum) (s : RegNum)
  /-- ARSH_ALU_K, R171: dst = (u32)(dst s>> imm) -/
  | arshAluK (d : RegNum) (imm : Imm)
  /-- ARSH_ALU_X, R172: dst = (u32)(dst s>> src) -/
  | arshAluX (d : RegNum) (s : RegNum)
  /-- ARSH_ALU64_K, R173: dst s>>= imm -/
  | arshAlu64K (d : RegNum) (imm : Imm)
  /-- ARSH_ALU64_X, R174: dst s>>= src -/
  | arshAlu64X (d : RegNum) (s : RegNum)
  /-- END_TO_LE16, R185: dst = htole16(dst) -/
  | endToLe16 (d : RegNum)
  /-- END_TO_LE32, R186: dst = htole32(dst) -/
  | endToLe32 (d : RegNum)
  /-- END_TO_LE64, R187: dst = htole64(dst) -/
  | endToLe64 (d : RegNum)
  /-- END_TO_BE16, R188: dst = htobe16(dst) -/
  | endToBe16 (d : RegNum)
  /-- END_TO_BE32, R189: dst = htobe32(dst) -/
  | endToBe32 (d : RegNum)
  /-- END_TO_BE64, R190: dst = htobe64(dst) -/
  | endToBe64 (d : RegNum)
  /-- BSWAP16, R191: dst = bswap16(dst) -/
  | bswap16 (d : RegNum)
  /-- BSWAP32, R192: dst = bswap32(dst) -/
  | bswap32 (d : RegNum)
  /-- BSWAP64, R193: dst = bswap64(dst) -/
  | bswap64 (d : RegNum)
  /-- JA_JMP, R209: goto +offset -/
  | jaJmp (off : Offset)
  /-- JA_JMP32, R210: goto +imm -/
  | jaJmp32 (imm : Imm)
  /-- JEQ_JMP_K, R221: if dst == imm goto +offset -/
  | jeqJmpK (d : RegNum) (off : Offset) (imm : Imm)
  /-- JEQ_JMP_X, R222: if dst == src goto +offset -/
  | jeqJmpX (d : RegNum) (s : RegNum) (off : Offset)
  /-- JEQ_JMP32_K, R223: if (u32)dst == imm goto +offset -/
  | jeqJmp32K (d : RegNum) (off : Offset) (imm : Imm)
  /-- JEQ_JMP32_X, R224: if (u32)dst == (u32)src goto +offset -/
  | jeqJmp32X (d : RegNum) (s : RegNum) (off : Offset)
  /-- JGT_JMP_K, R225: if dst > imm goto +offset -/
  | jgtJmpK (d : RegNum) (off : Offset) (imm : Imm)
  /-- JGT_JMP_X, R226: if dst > src goto +offset -/
  | jgtJmpX (d : RegNum) (s : RegNum) (off : Offset)
  /-- JGT_JMP32_K, R227: if (u32)dst > imm goto +offset -/
  | jgtJmp32K (d : RegNum) (off : Offset) (imm : Imm)
  /-- JGT_JMP32_X, R228: if (u32)dst > (u32)src goto +offset -/
  | jgtJmp32X (d : RegNum) (s : RegNum) (off : Offset)
  /-- JGE_JMP_K, R229: if dst >= imm goto +offset -/
  | jgeJmpK (d : RegNum) (off : Offset) (imm : Imm)
  /-- JGE_JMP_X, R230: if dst >= src goto +offset -/
  | jgeJmpX (d : RegNum) (s : RegNum) (off : Offset)
  /-- JGE_JMP32_K, R231: if (u32)dst >= imm goto +offset -/
  | jgeJmp32K (d : RegNum) (off : Offset) (imm : Imm)
  /-- JGE_JMP32_X, R232: if (u32)dst >= (u32)src goto +offset -/
  | jgeJmp32X (d : RegNum) (s : RegNum) (off : Offset)
  /-- JSET_JMP_K, R233: if dst & imm goto +offset -/
  | jsetJmpK (d : RegNum) (off : Offset) (imm : Imm)
  /-- JSET_JMP_X, R234: if dst & src goto +offset -/
  | jsetJmpX (d : RegNum) (s : RegNum) (off : Offset)
  /-- JSET_JMP32_K, R235: if (u32)dst & imm goto +offset -/
  | jsetJmp32K (d : RegNum) (off : Offset) (imm : Imm)
  /-- JSET_JMP32_X, R236: if (u32)dst & (u32)src goto +offset -/
  | jsetJmp32X (d : RegNum) (s : RegNum) (off : Offset)
  /-- JNE_JMP_K, R237: if dst != imm goto +offset -/
  | jneJmpK (d : RegNum) (off : Offset) (imm : Imm)
  /-- JNE_JMP_X, R238: if dst != src goto +offset -/
  | jneJmpX (d : RegNum) (s : RegNum) (off : Offset)
  /-- JNE_JMP32_K, R239: if (u32)dst != imm goto +offset -/
  | jneJmp32K (d : RegNum) (off : Offset) (imm : Imm)
  /-- JNE_JMP32_X, R240: if (u32)dst != (u32)src goto +offset -/
  | jneJmp32X (d : RegNum) (s : RegNum) (off : Offset)
  /-- JSGT_JMP_K, R241: if dst s> imm goto +offset -/
  | jsgtJmpK (d : RegNum) (off : Offset) (imm : Imm)
  /-- JSGT_JMP_X, R242: if dst s> src goto +offset -/
  | jsgtJmpX (d : RegNum) (s : RegNum) (off : Offset)
  /-- JSGT_JMP32_K, R243: if (s32)dst s> (s32)imm goto +offset -/
  | jsgtJmp32K (d : RegNum) (off : Offset) (imm : Imm)
  /-- JSGT_JMP32_X, R244: if (s32)dst s> (s32)src goto +offset -/
  | jsgtJmp32X (d : RegNum) (s : RegNum) (off : Offset)
  /-- JSGE_JMP_K, R245: if dst s>= imm goto +offset -/
  | jsgeJmpK (d : RegNum) (off : Offset) (imm : Imm)
  /-- JSGE_JMP_X, R246: if dst s>= src goto +offset -/
  | jsgeJmpX (d : RegNum) (s : RegNum) (off : Offset)
  /-- JSGE_JMP32_K, R247: if (s32)dst s>= (s32)imm goto +offset -/
  | jsgeJmp32K (d : RegNum) (off : Offset) (imm : Imm)
  /-- JSGE_JMP32_X, R248: if (s32)dst s>= (s32)src goto +offset -/
  | jsgeJmp32X (d : RegNum) (s : RegNum) (off : Offset)
  /-- JLT_JMP_K, R249: if dst < imm goto +offset -/
  | jltJmpK (d : RegNum) (off : Offset) (imm : Imm)
  /-- JLT_JMP_X, R250: if dst < src goto +offset -/
  | jltJmpX (d : RegNum) (s : RegNum) (off : Offset)
  /-- JLT_JMP32_K, R251: if (u32)dst < imm goto +offset -/
  | jltJmp32K (d : RegNum) (off : Offset) (imm : Imm)
  /-- JLT_JMP32_X, R252: if (u32)dst < (u32)src goto +offset -/
  | jltJmp32X (d : RegNum) (s : RegNum) (off : Offset)
  /-- JLE_JMP_K, R253: if dst <= imm goto +offset -/
  | jleJmpK (d : RegNum) (off : Offset) (imm : Imm)
  /-- JLE_JMP_X, R254: if dst <= src goto +offset -/
  | jleJmpX (d : RegNum) (s : RegNum) (off : Offset)
  /-- JLE_JMP32_K, R255: if (u32)dst <= imm goto +offset -/
  | jleJmp32K (d : RegNum) (off : Offset) (imm : Imm)
  /-- JLE_JMP32_X, R256: if (u32)dst <= (u32)src goto +offset -/
  | jleJmp32X (d : RegNum) (s : RegNum) (off : Offset)
  /-- JSLT_JMP_K, R257: if dst s< imm goto +offset -/
  | jsltJmpK (d : RegNum) (off : Offset) (imm : Imm)
  /-- JSLT_JMP_X, R258: if dst s< src goto +offset -/
  | jsltJmpX (d : RegNum) (s : RegNum) (off : Offset)
  /-- JSLT_JMP32_K, R259: if (s32)dst s< (s32)imm goto +offset -/
  | jsltJmp32K (d : RegNum) (off : Offset) (imm : Imm)
  /-- JSLT_JMP32_X, R260: if (s32)dst s< (s32)src goto +offset -/
  | jsltJmp32X (d : RegNum) (s : RegNum) (off : Offset)
  /-- JSLE_JMP_K, R261: if dst s<= imm goto +offset -/
  | jsleJmpK (d : RegNum) (off : Offset) (imm : Imm)
  /-- JSLE_JMP_X, R262: if dst s<= src goto +offset -/
  | jsleJmpX (d : RegNum) (s : RegNum) (off : Offset)
  /-- JSLE_JMP32_K, R263: if (s32)dst s<= (s32)imm goto +offset -/
  | jsleJmp32K (d : RegNum) (off : Offset) (imm : Imm)
  /-- JSLE_JMP32_X, R264: if (s32)dst s<= (s32)src goto +offset -/
  | jsleJmp32X (d : RegNum) (s : RegNum) (off : Offset)
  /-- CALL_HELPER, R211: call helper function by static ID -/
  | callHelper (imm : Imm)
  /-- CALL_LOCAL, R212: call PC += imm -/
  | callLocal (imm : Imm)
  /-- CALL_HELPER_BTF, R213: call helper function by BTF ID -/
  | callHelperBtf (imm : Imm)
  /-- EXIT, R214: return -/
  | exit
  /-- LDX_MEM_B, R275: dst = *(u8 *)(src + offset) -/
  | ldxMemB (d : RegNum) (s : RegNum) (off : Offset)
  /-- LDX_MEM_H, R276: dst = *(u16 *)(src + offset) -/
  | ldxMemH (d : RegNum) (s : RegNum) (off : Offset)
  /-- LDX_MEM_W, R277: dst = *(u32 *)(src + offset) -/
  | ldxMemW (d : RegNum) (s : RegNum) (off : Offset)
  /-- LDX_MEM_DW, R278: dst = *(u64 *)(src + offset) -/
  | ldxMemDw (d : RegNum) (s : RegNum) (off : Offset)
  /-- ST_MEM_B, R279: *(u8 *)(dst + offset) = imm -/
  | stMemB (d : RegNum) (off : Offset) (imm : Imm)
  /-- ST_MEM_H, R280: *(u16 *)(dst + offset) = imm -/
  | stMemH (d : RegNum) (off : Offset) (imm : Imm)
  /-- ST_MEM_W, R281: *(u32 *)(dst + offset) = imm -/
  | stMemW (d : RegNum) (off : Offset) (imm : Imm)
  /-- ST_MEM_DW, R282: *(u64 *)(dst + offset) = imm -/
  | stMemDw (d : RegNum) (off : Offset) (imm : Imm)
  /-- STX_MEM_B, R283: *(u8 *)(dst + offset) = src -/
  | stxMemB (d : RegNum) (s : RegNum) (off : Offset)
  /-- STX_MEM_H, R284: *(u16 *)(dst + offset) = src -/
  | stxMemH (d : RegNum) (s : RegNum) (off : Offset)
  /-- STX_MEM_W, R285: *(u32 *)(dst + offset) = src -/
  | stxMemW (d : RegNum) (s : RegNum) (off : Offset)
  /-- STX_MEM_DW, R286: *(u64 *)(dst + offset) = src -/
  | stxMemDw (d : RegNum) (s : RegNum) (off : Offset)
  /-- LDX_MEMSX_B, R287: dst = *(signed size *) (src + offset) -/
  | ldxMemsxB (d : RegNum) (s : RegNum) (off : Offset)
  /-- LDX_MEMSX_H, R288: dst = *(signed size *) (src + offset) -/
  | ldxMemsxH (d : RegNum) (s : RegNum) (off : Offset)
  /-- LDX_MEMSX_W, R289: dst = *(signed size *) (src + offset) -/
  | ldxMemsxW (d : RegNum) (s : RegNum) (off : Offset)
  /-- ATOMIC_ADD_W, R306: lock *(u32 *)(dst + offset) += src -/
  | atomicAddW (d : RegNum) (s : RegNum) (off : Offset)
  /-- ATOMIC_FETCH_ADD_W, R307: src = atomic_fetch_add_32((u32 *)(dst + offset), src) -/
  | atomicFetchAddW (d : RegNum) (s : RegNum) (off : Offset)
  /-- ATOMIC_OR_W, R308: lock *(u32 *)(dst + offset) |= src -/
  | atomicOrW (d : RegNum) (s : RegNum) (off : Offset)
  /-- ATOMIC_FETCH_OR_W, R309: src = atomic_fetch_or_32((u32 *)(dst + offset), src) -/
  | atomicFetchOrW (d : RegNum) (s : RegNum) (off : Offset)
  /-- ATOMIC_AND_W, R310: lock *(u32 *)(dst + offset) &= src -/
  | atomicAndW (d : RegNum) (s : RegNum) (off : Offset)
  /-- ATOMIC_FETCH_AND_W, R311: src = atomic_fetch_and_32((u32 *)(dst + offset), src) -/
  | atomicFetchAndW (d : RegNum) (s : RegNum) (off : Offset)
  /-- ATOMIC_XOR_W, R312: lock *(u32 *)(dst + offset) ^= src -/
  | atomicXorW (d : RegNum) (s : RegNum) (off : Offset)
  /-- ATOMIC_FETCH_XOR_W, R313: src = atomic_fetch_xor_32((u32 *)(dst + offset), src) -/
  | atomicFetchXorW (d : RegNum) (s : RegNum) (off : Offset)
  /-- ATOMIC_XCHG_W, R314: src = xchg_32((u32 *)(dst + offset), src) -/
  | atomicXchgW (d : RegNum) (s : RegNum) (off : Offset)
  /-- ATOMIC_CMPXCHG_W, R315: r0 = cmpxchg_32((u32 *)(dst + offset), r0, src) -/
  | atomicCmpxchgW (d : RegNum) (s : RegNum) (off : Offset)
  /-- ATOMIC_ADD_DW, R316: lock *(u64 *)(dst + offset) += src -/
  | atomicAddDw (d : RegNum) (s : RegNum) (off : Offset)
  /-- ATOMIC_FETCH_ADD_DW, R317: src = atomic_fetch_add_64((u64 *)(dst + offset), src) -/
  | atomicFetchAddDw (d : RegNum) (s : RegNum) (off : Offset)
  /-- ATOMIC_OR_DW, R318: lock *(u64 *)(dst + offset) |= src -/
  | atomicOrDw (d : RegNum) (s : RegNum) (off : Offset)
  /-- ATOMIC_FETCH_OR_DW, R319: src = atomic_fetch_or_64((u64 *)(dst + offset), src) -/
  | atomicFetchOrDw (d : RegNum) (s : RegNum) (off : Offset)
  /-- ATOMIC_AND_DW, R320: lock *(u64 *)(dst + offset) &= src -/
  | atomicAndDw (d : RegNum) (s : RegNum) (off : Offset)
  /-- ATOMIC_FETCH_AND_DW, R321: src = atomic_fetch_and_64((u64 *)(dst + offset), src) -/
  | atomicFetchAndDw (d : RegNum) (s : RegNum) (off : Offset)
  /-- ATOMIC_XOR_DW, R322: lock *(u64 *)(dst + offset) ^= src -/
  | atomicXorDw (d : RegNum) (s : RegNum) (off : Offset)
  /-- ATOMIC_FETCH_XOR_DW, R323: src = atomic_fetch_xor_64((u64 *)(dst + offset), src) -/
  | atomicFetchXorDw (d : RegNum) (s : RegNum) (off : Offset)
  /-- ATOMIC_XCHG_DW, R324: src = xchg_64((u64 *)(dst + offset), src) -/
  | atomicXchgDw (d : RegNum) (s : RegNum) (off : Offset)
  /-- ATOMIC_CMPXCHG_DW, R325: r0 = cmpxchg_64((u64 *)(dst + offset), r0, src) -/
  | atomicCmpxchgDw (d : RegNum) (s : RegNum) (off : Offset)
  /-- LD_IMM64, R349: dst = (next_imm << 32) | imm -/
  | ldImm64 (d : RegNum) (imm : Imm) (nextImm : Imm)
  /-- LD_MAP_BY_FD, R350: dst = map_by_fd(imm) -/
  | ldMapByFd (d : RegNum) (imm : Imm)
  /-- LD_MAP_VAL_BY_FD, R351: dst = map_val(map_by_fd(imm)) + next_imm -/
  | ldMapValByFd (d : RegNum) (imm : Imm) (nextImm : Imm)
  /-- LD_VAR_ADDR, R352: dst = var_addr(imm) -/
  | ldVarAddr (d : RegNum) (imm : Imm)
  /-- LD_CODE_ADDR, R353: dst = code_addr(imm) -/
  | ldCodeAddr (d : RegNum) (imm : Imm)
  /-- LD_MAP_BY_IDX, R354: dst = map_by_idx(imm) -/
  | ldMapByIdx (d : RegNum) (imm : Imm)
  /-- LD_MAP_VAL_BY_IDX, R355: dst = map_val(map_by_idx(imm)) + next_imm -/
  | ldMapValByIdx (d : RegNum) (imm : Imm) (nextImm : Imm)
  /-- WIDE_SECOND_SLOT, R356: (additional immediate value) -/
  | wideSecondSlot (imm : Imm)
  /-- LD_ABS_W, R361: (deprecated, implementation-specific) -/
  | ldAbsW (imm : Imm)
  /-- LD_ABS_H, R362: (deprecated, implementation-specific) -/
  | ldAbsH (imm : Imm)
  /-- LD_ABS_B, R363: (deprecated, implementation-specific) -/
  | ldAbsB (imm : Imm)
  /-- LD_IND_W, R364: (deprecated, implementation-specific) -/
  | ldIndW (s : RegNum) (imm : Imm)
  /-- LD_IND_H, R365: (deprecated, implementation-specific) -/
  | ldIndH (s : RegNum) (imm : Imm)
  /-- LD_IND_B, R366: (deprecated, implementation-specific) -/
  | ldIndB (s : RegNum) (imm : Imm)
deriving DecidableEq, Repr

end Sys2Proof
end

