-- ==== Sys2Proof/Config.lean ====
section
/-! DEFINITION. The parameters of 00_scope.md R8 as plain data, the fault and status types of
10_state.md R30 and 60_exceptions.md R402, and the constants without a body that stand for what the platform
leaves open: what a helper does and what a legacy packet load does.

The parameters are held in `State.cfg` and never change during a run (70_reset_and_hazards.md R440), so a
statement about every state is a statement about every platform. -/

namespace Sys2Proof

/-- HOST_ENDIAN (R8, 20_memory.md R43). -/
inductive Endian where
  | little
  | big
deriving DecidableEq, Repr, Inhabited

/-- The seven conformance groups (00_scope.md R4). -/
inductive Group where
  | base32
  | base64
  | atomic32
  | atomic64
  | divmul32
  | divmul64
  | packet
deriving DecidableEq, Repr, Inhabited

/-- GROUPS, the set of groups the implementation supports (00_scope.md R5). -/
structure Groups where
  base32 : Bool
  base64 : Bool
  atomic32 : Bool
  atomic64 : Bool
  divmul32 : Bool
  divmul64 : Bool
  packet : Bool
deriving DecidableEq, Repr, Inhabited

/-- One entry of REGIONS (20_memory.md R41). -/
structure Region where
  base : Nat
  length : Nat
  readable : Bool
  writable : Bool
deriving DecidableEq, Repr, Inhabited

/-- The two kinds of helper identification (43_jump.md R206). -/
inductive HelperKind where
  | staticId
  | btfId
deriving DecidableEq, Repr, Inhabited

/-- The two modes of legacy packet access (48_legacy_packet.md R360). -/
inductive PacketMode where
  | abs
  | ind
deriving DecidableEq, Repr, Inhabited

/-- The nine faults of 60_exceptions.md R402 with their information. -/
inductive FaultInfo where
  /-- Code 1 (R403): the slot at pc is no instruction of the supported groups. -/
  | illegalInstruction (pc : Nat)
  /-- Code 2 (R404): a taken transfer, or the fetch, has no valid target. -/
  | badJumpTarget (target : Int)
  /-- Code 3 (R405): the effective address of an access no region allows. -/
  | memFault (addr : Word)
  /-- Code 4 (R406): the effective address of a misaligned access. -/
  | misaligned (addr : Word)
  /-- Code 5 (R407): the number of a register read while it holds no value. -/
  | uninitRegister (reg : RegNum)
  /-- Code 6 (R408): CALL_LOCAL with MAX_CALL_DEPTH return slots on the call stack. -/
  | callDepthExceeded (pc : Nat)
  /-- Code 7 (R409): a helper the platform does not supply. -/
  | unknownHelper (kind : HelperKind) (id : Imm)
  /-- Code 8 (R410): a platform function of a 64-bit immediate load has no answer. -/
  | platformRefused (subtype : BitVec 4) (imm : Imm)
  /-- Code 9 (R411): a legacy packet load without a PacketAccess function. -/
  | unsupported (pc : Nat)
deriving DecidableEq, Repr, Inhabited

/-- The run status (10_state.md R30). -/
inductive RunStatus where
  | running
  | exited
  | faulted (fault : FaultInfo)
deriving DecidableEq, Repr, Inhabited

/-- The register file: eleven registers, each a 64-bit value or no value (10_state.md R21, R22, R24).
`none` is the spec's own "holds no value", not a missing reset value. -/
abbrev Regs := Vector (Option Word) 11

/-- Data memory as a list of (address, byte), in the canonical form `Memory.wf` (20_memory.md R40). -/
abbrev Memory := List Host.Cell

/-- The parameters of 00_scope.md R8 that do not change during a run. The five platform functions are finite
partial functions, given as association lists whose first entry for a key counts (47_imm64.md R343; log 14). -/
structure Config where
  /-- HOST_ENDIAN. -/
  endian : Endian
  /-- GROUPS. -/
  groups : Groups
  /-- REGIONS. -/
  regions : List Region
  /-- STRICT_ALIGNMENT. -/
  strictAlignment : Bool
  /-- MAX_CALL_DEPTH. -/
  maxCallDepth : Nat
  /-- R10_READ_ONLY. -/
  r10ReadOnly : Bool
  /-- The (kind, id) for which the platform supplies a helper. -/
  helpers : List (HelperKind × Imm)
  /-- map_by_fd, from a file descriptor to a map. -/
  mapByFd : List (Imm × Word)
  /-- map_by_idx, from an index to a map. -/
  mapByIdx : List (Imm × Word)
  /-- map_val, from a map to the address of its first value. -/
  mapVal : List (Word × Word)
  /-- var_addr, from a variable id to its address. -/
  varAddr : List (Imm × Word)
  /-- code_addr, from the pair (pc, s32(imm)) to a code address (47_imm64.md R347). -/
  codeAddr : List ((Nat × Int) × Word)
  /-- Whether the platform supplies PacketAccess. -/
  packetAccess : Bool
deriving DecidableEq, Repr, Inhabited

/-- What a helper call may do (43_jump.md R206). -/
inductive HelperOutcome where
  /-- The helper returns: the register file after it, the bytes it writes, its private state. -/
  | returns (regs : Regs) (writes : List Host.Cell) (platform : Nat)
  /-- The helper ends the run: as `returns`, and the pc the run ends with. -/
  | ends (regs : Regs) (writes : List Host.Cell) (platform : Nat) (pc : Nat)
  /-- The helper raises a fault. -/
  | faults (fault : FaultInfo)
deriving DecidableEq, Repr, Inhabited

/-- What a legacy packet load may do (48_legacy_packet.md R360): registers, memory, pc and status. That the answered
register file may leave a register without a value is the model's choice (DESIGN CHOICE, log 20): 10_state.md R24 names
only helpers for it. -/
structure PacketOutcome where
  regs : Regs
  writes : List Host.Cell
  pc : Nat
  status : RunStatus
deriving DecidableEq, Repr, Inhabited

/-- Helper(kind, id) of 43_jump.md R206 as a constant WITHOUT A BODY: what a helper does is its contract's,
and nothing here can be evaluated or proved about it (log 8). It reads the parameters, the registers, the
memory and the helpers' private state (10_state.md R20(7)). -/
opaque Config.helper (kind : HelperKind) (id : Imm) (cfg : Config) (regs : Regs) (mem : Memory)
    (platform : Nat) : HelperOutcome

/-- PacketAccess(mode, size, value, imm) of 48_legacy_packet.md R360 as a constant WITHOUT A BODY (log 12).
`value` is x[src_reg] for IND and absent for ABS; beside it the whole state is handed over. -/
opaque Config.packetResult (mode : PacketMode) (size : Nat) (value : Option Word) (imm : Imm) (cfg : Config)
    (regs : Regs) (mem : Memory) (pc : Nat) (status : RunStatus) (callstack : List Nat) (program : List Slot)
    (platform : Nat) : PacketOutcome

end Sys2Proof
end

