-- ==== Sys2Proof/Machine/Arith.lean ====
section
/-! DEFINITION. The arithmetic operations on N-bit operands, N = 32 or 64, as the pseudocode of 40_arithmetic.md
and 41_arithmetic2.md computes them: exact integers, narrowed at the end (R104-R108). -/

namespace Sys2Proof.Machine

/-- ADD (R104). -/
def opAdd {n : Nat} (a b : BitVec n) : BitVec n := BitVec.ofNat n (a.toNat + b.toNat)

/-- SUB (R104). -/
def opSub {n : Nat} (a b : BitVec n) : BitVec n := BitVec.ofInt n (a.toNat - b.toNat)

/-- MUL (R104). -/
def opMul {n : Nat} (a b : BitVec n) : BitVec n := BitVec.ofNat n (a.toNat * b.toNat)

/-- DIV: unsigned quotient, 0 for a zero divisor (R105, R106). -/
def opDiv {n : Nat} (a b : BitVec n) : BitVec n := if b = 0#n then 0#n else BitVec.ofNat n (a.toNat / b.toNat)

/-- MOD: unsigned remainder, the dividend for a zero divisor (R105, R106). -/
def opMod {n : Nat} (a b : BitVec n) : BitVec n := if b = 0#n then a else BitVec.ofNat n (a.toNat % b.toNat)

/-- SDIV: signed quotient rounded toward zero, wrapped; 0 for a zero divisor (R105-R107). -/
def opSdiv {n : Nat} (a b : BitVec n) : BitVec n :=
  if b = 0#n then 0#n else BitVec.ofInt n (a.toInt.tdiv b.toInt)

/-- SMOD: a - b * trunc(a / b), wrapped; the dividend for a zero divisor (R105-R107). -/
def opSmod {n : Nat} (a b : BitVec n) : BitVec n :=
  if b = 0#n then a else BitVec.ofInt n (a.toInt - b.toInt * a.toInt.tdiv b.toInt)

/-- OR. -/
def opOr {n : Nat} (a b : BitVec n) : BitVec n := a ||| b

/-- AND. -/
def opAnd {n : Nat} (a b : BitVec n) : BitVec n := a &&& b

/-- XOR. -/
def opXor {n : Nat} (a b : BitVec n) : BitVec n := a ^^^ b

/-- The shift amount b & 31 for 32-bit and b & 63 for 64-bit operations: b & (N - 1) (R108). -/
def shiftAmount {n : Nat} (b : BitVec n) : Nat := (b &&& BitVec.ofNat n (n - 1)).toNat

/-- LSH: zeros enter at bit 0 (R108). -/
def opLsh {n : Nat} (a b : BitVec n) : BitVec n := a <<< shiftAmount b

/-- RSH: zeros enter at the top (R108). -/
def opRsh {n : Nat} (a b : BitVec n) : BitVec n := a >>> shiftAmount b

/-- ARSH: copies of the sign bit enter at the top (R108). -/
def opArsh {n : Nat} (a b : BitVec n) : BitVec n := a.sshiftRight (shiftAmount b)

/-- NEG (R104, R110). -/
def opNeg {n : Nat} (a : BitVec n) : BitVec n := BitVec.ofInt n (0 - a.toNat)

end Sys2Proof.Machine
end

