-- ==== Sys2Proof/Machine/Bytes.lean ====
section
/-! DEFINITION. Byte order: words as bytes, host order, byte reversal, extension (00_scope.md R11, R12;
20_memory.md R43, R45, R46). Values of 1, 2, 4 and 8 bytes are carried in a 64-bit word. -/

namespace Sys2Proof.Machine

/-- The low `n` bytes of a word, byte 0 (the least significant) first (20_memory.md R45). -/
def toBytes (n : Nat) (v : Word) : List Byte := (List.range n).map fun k => v.extractLsb' (8 * k) 8

/-- The value whose byte k is entry k of the list, zero-extended to 64 bits (R45). -/
def ofBytes : List Byte → Word
  | [] => 0
  | b :: rest => (ofBytes rest <<< 8) ||| b.setWidth 64

/-- Least-significant-first bytes in the order memory holds them, and back (R43). -/
def hostOrder (e : Endian) (bytes : List Byte) : List Byte :=
  match e with
  | .little => bytes
  | .big => bytes.reverse

/-- The low `n` bytes of a word, zero-extended: `v[8n-1:0]` as a 64-bit value. -/
def lowBytes (n : Nat) (v : Word) : Word := (v.setWidth (8 * n)).setWidth 64

/-- sext_64 of the low `n` bytes of a word (00_scope.md R12). -/
def signExtendBytes (n : Nat) (v : Word) : Word := (v.setWidth (8 * n)).signExtend 64

/-- bswap_N with N = 8n: byte k of the result is byte n - 1 - k of the operand, zero-extended (00_scope.md R11). -/
def bswap (n : Nat) (v : Word) : Word := ofBytes (toBytes n v).reverse

/-- htoleN with N = 8n (00_scope.md R11). -/
def htole (e : Endian) (n : Nat) (v : Word) : Word :=
  match e with
  | .little => lowBytes n v
  | .big => bswap n v

/-- htobeN with N = 8n (00_scope.md R11). -/
def htobe (e : Endian) (n : Nat) (v : Word) : Word :=
  match e with
  | .little => bswap n v
  | .big => lowBytes n v

end Sys2Proof.Machine
end

