-- ==== Sys2Proof/Machine/Memory.lean ====
section
/-! DEFINITION. Data memory: reading and writing bytes of the canonical list, and the regions an access needs
(20_memory.md R40-R47, R54). -/

namespace Sys2Proof

/-- What a byte reads as that nothing has written: INIT_MEM is zero unless given (00_scope.md R8; log 5). -/
def Memory.fill : Byte := 0

/-- The canonical form: addresses strictly rising, no entry equal to what an unlisted address reads as. -/
def Memory.wf (m : Memory) : Bool :=
  decide (m.Pairwise fun p q => p.1 < q.1) && m.all fun p => p.2 != Memory.fill

/-- The byte at an address. -/
def Memory.read : Memory → Nat → Byte
  | [], _ => Memory.fill
  | (k, v) :: rest, a => if k = a then v else Memory.read rest a

/-- The memory with one byte changed, kept canonical. -/
def Memory.write : Memory → Nat → Byte → Memory
  | [], a, v => if v = Memory.fill then [] else [(a, v)]
  | (k, w) :: rest, a, v =>
    if a < k then (if v = Memory.fill then (k, w) :: rest else (a, v) :: (k, w) :: rest)
    else if a = k then (if v = Memory.fill then rest else (a, v) :: rest)
    else (k, w) :: Memory.write rest a v

/-- The `n` bytes from address `a` up. -/
def Memory.readBytes (m : Memory) (a : Nat) : Nat → List Byte
  | 0 => []
  | n + 1 => m.read a :: Memory.readBytes m (a + 1) n

/-- The memory with the given bytes stored from address `a` up. -/
def Memory.writeBytes (m : Memory) (a : Nat) : List Byte → Memory
  | [] => m
  | b :: rest => Memory.writeBytes (m.write a b) (a + 1) rest

/-- The value of `n` bytes at `a` in host byte order (20_memory.md R43, R45). -/
def Memory.readValue (m : Memory) (e : Endian) (a n : Nat) : Word :=
  Machine.ofBytes (Machine.hostOrder e (m.readBytes a n))

/-- The memory with the low `n` bytes of `v` stored at `a` in host byte order (20_memory.md R43, R46). -/
def Memory.writeValue (m : Memory) (e : Endian) (a n : Nat) (v : Word) : Memory :=
  m.writeBytes a (Machine.hostOrder e (Machine.toBytes n v))

namespace Machine

/-- Who accesses memory: a load needs read permission, a store write permission, an atomic both
(20_memory.md R41; 46_atomic.md R305). -/
inductive AccessKind where
  | load
  | store
  | atomic
deriving DecidableEq, Repr

/-- The region has the permission an access needs (20_memory.md R41). -/
def Region.grants (r : Region) (k : AccessKind) : Bool :=
  match k with
  | .load => r.readable
  | .store => r.writable
  | .atomic => r.readable && r.writable

/-- All `n` bytes from `a` lie in the region (20_memory.md R41). -/
def Region.covers (r : Region) (a n : Nat) : Bool := r.base ≤ a && a + n ≤ r.base + r.length

/-- One region holds all `n` bytes from `a` and has the needed permission (20_memory.md R41). -/
def allowed (regions : List Region) (k : AccessKind) (a n : Nat) : Bool :=
  regions.any fun r => Region.covers r a n && Region.grants r k

/-- The byte at `a` exists: some region holds it (20_memory.md R41; 70_reset_and_hazards.md R440). -/
def byteExists (regions : List Region) (a : Nat) : Bool := regions.any fun r => Region.covers r a 1

/-- The checks of an access of `n` bytes at `ea`, in order: the regions, then the alignment
(20_memory.md R45, R46, R47; 46_atomic.md R305; 60_exceptions.md R406, R412(5)). -/
def accessCheck (cfg : Config) (k : AccessKind) (ea : Word) (n : Nat) : Except FaultInfo Unit :=
  if ¬ (ea.toNat + n ≤ 2 ^ 64 ∧ allowed cfg.regions k ea.toNat n = true) then .error (.memFault ea)
  else if 1 < n ∧ ea.toNat % n ≠ 0 ∧ (cfg.strictAlignment = true ∨ k = .atomic) then .error (.misaligned ea)
  else .ok ()

/-- Apply byte writes in order, only where `ok` holds of the address. -/
def applyWrites (ok : Nat → Bool) (m : Memory) : List Host.Cell → Memory
  | [] => m
  | (a, b) :: rest => applyWrites ok (if ok a then m.write a b else m) rest

end Machine

end Sys2Proof
end

