-- ==== Sys2Proof/Machine/State.lean ====
section
/-! DEFINITION. The state of one running program: the seven components of 10_state.md R20, beside the parameters
of 00_scope.md R8, which no step changes. There are no flags, control registers, modes or interrupt state
(R31, R32, R33; 60_exceptions.md R415, R416). -/

namespace Sys2Proof.Machine

/-- The machine's state, plain data (10_state.md R20). -/
structure State where
  /-- x[0] .. x[10] (R21, R22, R24). -/
  regs : Regs
  /-- The slot index of the current instruction, unbounded (R25). -/
  pc : Nat
  /-- The return slots, the newest last (R28). -/
  callstack : List Nat
  /-- Data memory: the bytes of REGIONS (R29). -/
  mem : Memory
  /-- PROGRAM, which never changes (R27). -/
  program : List Slot
  /-- Running, Exited or Faulted (R30). -/
  status : RunStatus
  /-- The private state of the platform's helpers, which only the helpers read and write (R20(7); log 11). -/
  platform : Nat
  /-- The parameters of 00_scope.md R8, fixed for the run (70_reset_and_hazards.md R440; log 1). -/
  cfg : Config
deriving DecidableEq, Repr, Inhabited

/-- Why `step` answers no next state. The spec's nine faults are no `Fault`: raising one is a next state whose
status is Faulted (60_exceptions.md R401; log 6). -/
inductive Fault where
  /-- Raised by `step` on a state whose status is Exited, to which no rule applies (10_state.md R30; log 7).
  Safe: the spec gives such a state no next state. -/
  | runExited
  /-- Raised by `step` on a state whose status is Faulted, to which no rule applies (R30; log 7). Safe. -/
  | runFaulted (fault : FaultInfo)
deriving DecidableEq, Repr

/-- Why an instruction is refused. -/
inductive Refusal where
  /-- Raised by `exec` for an instruction that has no meaning in the model. Safe. No arm of this model uses it. -/
  | notModelled (mnemonic : String)
deriving DecidableEq, Repr

/-- The start state of a run (10_state.md R34, 70_reset_and_hazards.md R440): pc 0, an empty call stack, status
Running; the registers, the memory, the program and the parameters are the platform's. -/
def State.start (cfg : Config) (program : List Slot) (initRegs : Regs) (initMem : Memory) (platform : Nat) : State :=
  { regs := initRegs
    pc := 0
    callstack := []
    mem := initMem
    program := program
    status := .running
    platform := platform
    cfg := cfg }

/-- The parameters at reset: the defaults of the table of 00_scope.md R8 where it gives one, little endian, and
no region, helper or platform function (log 2). -/
def resetConfig : Config :=
  { endian := .little
    groups :=
      { base32 := true
        base64 := true
        atomic32 := true
        atomic64 := true
        divmul32 := true
        divmul64 := true
        packet := false }
    regions := []
    strictAlignment := true
    maxCallDepth := 8
    r10ReadOnly := false
    helpers := []
    mapByFd := []
    mapByIdx := []
    mapVal := []
    varAddr := []
    codeAddr := []
    packetAccess := false }

/-- Every register holds 0: INIT_REGS at reset (log 3). -/
def resetRegs : Regs := Vector.replicate 11 (some 0)

/-- The machine right after reset: the start state with the parameters `resetConfig`, no program (log 4), every
register 0 (log 3) and no byte of memory listed (log 5). -/
def State.reset : State := State.start resetConfig [] resetRegs [] 0

end Sys2Proof.Machine
end

