-- ==== Sys2Proof/WellFormed.lean ====
section
/-! DEFINITION. Well-formed instructions: every field that an instruction uses as a register number holds 0 .. 10
(30_encoding.md R70). No other field of `Instr` can hold an encoding the spec forbids: opcodes, selectors and
zero fields are fixed by the constructor. -/

namespace Sys2Proof

/-- A register field names a register when it holds 0 .. 10 (R70). -/
def isRegister (r : RegNum) : Bool := r.toNat ≤ 10

/-- The fields an instruction uses as register numbers (R69, R70). -/
def Instr.regFields : Instr → List RegNum
  | .addAluK d _ => [d]
  | .addAluX d s => [d, s]
  | .addAlu64K d _ => [d]
  | .addAlu64X d s => [d, s]
  | .subAluK d _ => [d]
  | .subAluX d s => [d, s]
  | .subAlu64K d _ => [d]
  | .subAlu64X d s => [d, s]
  | .mulAluK d _ => [d]
  | .mulAluX d s => [d, s]
  | .mulAlu64K d _ => [d]
  | .mulAlu64X d s => [d, s]
  | .divAluK d _ => [d]
  | .divAluX d s => [d, s]
  | .divAlu64K d _ => [d]
  | .divAlu64X d s => [d, s]
  | .sdivAluK d _ => [d]
  | .sdivAluX d s => [d, s]
  | .sdivAlu64K d _ => [d]
  | .sdivAlu64X d s => [d, s]
  | .orAluK d _ => [d]
  | .orAluX d s => [d, s]
  | .orAlu64K d _ => [d]
  | .orAlu64X d s => [d, s]
  | .andAluK d _ => [d]
  | .andAluX d s => [d, s]
  | .andAlu64K d _ => [d]
  | .andAlu64X d s => [d, s]
  | .lshAluK d _ => [d]
  | .lshAluX d s => [d, s]
  | .lshAlu64K d _ => [d]
  | .lshAlu64X d s => [d, s]
  | .rshAluK d _ => [d]
  | .rshAluX d s => [d, s]
  | .rshAlu64K d _ => [d]
  | .rshAlu64X d s => [d, s]
  | .negAlu d => [d]
  | .negAlu64 d => [d]
  | .modAluK d _ => [d]
  | .modAluX d s => [d, s]
  | .modAlu64K d _ => [d]
  | .modAlu64X d s => [d, s]
  | .smodAluK d _ => [d]
  | .smodAluX d s => [d, s]
  | .smodAlu64K d _ => [d]
  | .smodAlu64X d s => [d, s]
  | .xorAluK d _ => [d]
  | .xorAluX d s => [d, s]
  | .xorAlu64K d _ => [d]
  | .xorAlu64X d s => [d, s]
  | .movAluK d _ => [d]
  | .movAluX d s => [d, s]
  | .movAlu64K d _ => [d]
  | .movAlu64X d s => [d, s]
  | .movsx8AluX d s => [d, s]
  | .movsx16AluX d s => [d, s]
  | .movsx8Alu64X d s => [d, s]
  | .movsx16Alu64X d s => [d, s]
  | .movsx32Alu64X d s => [d, s]
  | .arshAluK d _ => [d]
  | .arshAluX d s => [d, s]
  | .arshAlu64K d _ => [d]
  | .arshAlu64X d s => [d, s]
  | .endToLe16 d => [d]
  | .endToLe32 d => [d]
  | .endToLe64 d => [d]
  | .endToBe16 d => [d]
  | .endToBe32 d => [d]
  | .endToBe64 d => [d]
  | .bswap16 d => [d]
  | .bswap32 d => [d]
  | .bswap64 d => [d]
  | .jaJmp _ => []
  | .jaJmp32 _ => []
  | .jeqJmpK d _ _ => [d]
  | .jeqJmpX d s _ => [d, s]
  | .jeqJmp32K d _ _ => [d]
  | .jeqJmp32X d s _ => [d, s]
  | .jgtJmpK d _ _ => [d]
  | .jgtJmpX d s _ => [d, s]
  | .jgtJmp32K d _ _ => [d]
  | .jgtJmp32X d s _ => [d, s]
  | .jgeJmpK d _ _ => [d]
  | .jgeJmpX d s _ => [d, s]
  | .jgeJmp32K d _ _ => [d]
  | .jgeJmp32X d s _ => [d, s]
  | .jsetJmpK d _ _ => [d]
  | .jsetJmpX d s _ => [d, s]
  | .jsetJmp32K d _ _ => [d]
  | .jsetJmp32X d s _ => [d, s]
  | .jneJmpK d _ _ => [d]
  | .jneJmpX d s _ => [d, s]
  | .jneJmp32K d _ _ => [d]
  | .jneJmp32X d s _ => [d, s]
  | .jsgtJmpK d _ _ => [d]
  | .jsgtJmpX d s _ => [d, s]
  | .jsgtJmp32K d _ _ => [d]
  | .jsgtJmp32X d s _ => [d, s]
  | .jsgeJmpK d _ _ => [d]
  | .jsgeJmpX d s _ => [d, s]
  | .jsgeJmp32K d _ _ => [d]
  | .jsgeJmp32X d s _ => [d, s]
  | .jltJmpK d _ _ => [d]
  | .jltJmpX d s _ => [d, s]
  | .jltJmp32K d _ _ => [d]
  | .jltJmp32X d s _ => [d, s]
  | .jleJmpK d _ _ => [d]
  | .jleJmpX d s _ => [d, s]
  | .jleJmp32K d _ _ => [d]
  | .jleJmp32X d s _ => [d, s]
  | .jsltJmpK d _ _ => [d]
  | .jsltJmpX d s _ => [d, s]
  | .jsltJmp32K d _ _ => [d]
  | .jsltJmp32X d s _ => [d, s]
  | .jsleJmpK d _ _ => [d]
  | .jsleJmpX d s _ => [d, s]
  | .jsleJmp32K d _ _ => [d]
  | .jsleJmp32X d s _ => [d, s]
  | .callHelper _ => []
  | .callLocal _ => []
  | .callHelperBtf _ => []
  | .exit => []
  | .ldxMemB d s _ => [d, s]
  | .ldxMemH d s _ => [d, s]
  | .ldxMemW d s _ => [d, s]
  | .ldxMemDw d s _ => [d, s]
  | .stMemB d _ _ => [d]
  | .stMemH d _ _ => [d]
  | .stMemW d _ _ => [d]
  | .stMemDw d _ _ => [d]
  | .stxMemB d s _ => [d, s]
  | .stxMemH d s _ => [d, s]
  | .stxMemW d s _ => [d, s]
  | .stxMemDw d s _ => [d, s]
  | .ldxMemsxB d s _ => [d, s]
  | .ldxMemsxH d s _ => [d, s]
  | .ldxMemsxW d s _ => [d, s]
  | .atomicAddW d s _ => [d, s]
  | .atomicFetchAddW d s _ => [d, s]
  | .atomicOrW d s _ => [d, s]
  | .atomicFetchOrW d s _ => [d, s]
  | .atomicAndW d s _ => [d, s]
  | .atomicFetchAndW d s _ => [d, s]
  | .atomicXorW d s _ => [d, s]
  | .atomicFetchXorW d s _ => [d, s]
  | .atomicXchgW d s _ => [d, s]
  | .atomicCmpxchgW d s _ => [d, s]
  | .atomicAddDw d s _ => [d, s]
  | .atomicFetchAddDw d s _ => [d, s]
  | .atomicOrDw d s _ => [d, s]
  | .atomicFetchOrDw d s _ => [d, s]
  | .atomicAndDw d s _ => [d, s]
  | .atomicFetchAndDw d s _ => [d, s]
  | .atomicXorDw d s _ => [d, s]
  | .atomicFetchXorDw d s _ => [d, s]
  | .atomicXchgDw d s _ => [d, s]
  | .atomicCmpxchgDw d s _ => [d, s]
  | .ldImm64 d _ _ => [d]
  | .ldMapByFd d _ => [d]
  | .ldMapValByFd d _ _ => [d]
  | .ldVarAddr d _ => [d]
  | .ldCodeAddr d _ => [d]
  | .ldMapByIdx d _ => [d]
  | .ldMapValByIdx d _ _ => [d]
  | .wideSecondSlot _ => []
  | .ldAbsW _ => []
  | .ldAbsH _ => []
  | .ldAbsB _ => []
  | .ldIndW s _ => [s]
  | .ldIndH s _ => [s]
  | .ldIndB s _ => [s]

/-- An instruction the encoding admits: every register field names a register (R70). -/
def Instr.wf (i : Instr) : Bool := i.regFields.all isRegister

end Sys2Proof
end

