-- ==== Sys2Proof/Machine/Ops.lean ====
section
/-! DEFINITION. The operations every meaning is written over: raising a fault, the registers, the decode-time
permission of an instruction, memory accesses, jump targets and the call stack. An operation answers the next
state or the fault that is raised; all checks come before the first change, so a fault leaves no partial effect
(60_exceptions.md R401, R412, R413). -/

namespace Sys2Proof.Machine

/-- The answer of an instruction's rule: the state after it, or the fault it raises. -/
abbrev Result := Except FaultInfo State

/-- RAISING A FAULT (60_exceptions.md R401): status becomes Faulted(F, i) and nothing else changes, so pc still
names the faulting instruction. There is no handler, no saved pc, no change of mode and no instruction that
returns from a fault. -/
def raise (f : FaultInfo) (s : State) : State := { s with status := .faulted f }

/-- The code of a fault in the table of 60_exceptions.md R402; no register ever holds it. -/
def FaultInfo.code : FaultInfo → Nat
  | .illegalInstruction _ => 1
  | .badJumpTarget _ => 2
  | .memFault _ => 3
  | .misaligned _ => 4
  | .uninitRegister _ => 5
  | .callDepthExceeded _ => 6
  | .unknownHelper _ _ => 7
  | .platformRefused _ _ => 8
  | .unsupported _ => 9

/-- The outcome of a rule in the state it started in: the state it answers, or that state with the fault raised. -/
def finish (s : State) (r : Result) : Host.Outcome State Fault Refusal :=
  match r with
  | .ok s' => .next s'
  | .error f => .next (raise f s)

/-! ### Registers -/

/-- The contents of a register field: `none` for a register without a value, and for a field above 10. -/
def Regs.get (x : Regs) (r : RegNum) : Option Word := (x[r.toNat]?).join

/-- x[r] <- v (10_state.md R22, R24). -/
def Regs.set (x : Regs) (r : RegNum) (v : Word) : Regs := x.setIfInBounds r.toNat (some v)

/-- Read x[r]; a register without a value raises UninitRegister (10_state.md R24; 60_exceptions.md R407). -/
def State.readReg (s : State) (r : RegNum) : Except FaultInfo Word :=
  match Regs.get s.regs r with
  | some v => .ok v
  | none => .error (.uninitRegister r)

/-- x[r] <- v. -/
def State.setReg (s : State) (r : RegNum) (v : Word) : State := { s with regs := Regs.set s.regs r v }

/-- pc <- pc + n: the implicit advance past an instruction of `n` slots (10_state.md R26). -/
def State.advance (s : State) (n : Nat) : State := { s with pc := s.pc + n }

/-! ### Whether the instruction may run -/

/-- The group is in GROUPS (00_scope.md R5, R6). -/
def Groups.has (g : Groups) : Group → Bool
  | .base32 => g.base32
  | .base64 => g.base64
  | .atomic32 => g.atomic32
  | .atomic64 => g.atomic64
  | .divmul32 => g.divmul32
  | .divmul64 => g.divmul64
  | .packet => g.packet

/-- GROUPS is one of the 36 legal values (00_scope.md R5). -/
def Groups.legal (g : Groups) : Bool :=
  g.base32 && (!g.atomic64 || g.atomic32) && (!g.divmul64 || g.divmul32)

/-- The instruction may run: its group is in GROUPS (00_scope.md R7), its register fields `regs` name registers,
and under R10_READ_ONLY the register field it writes, if any, is not 10 (30_encoding.md R70; log 15). -/
def mayRun (cfg : Config) (g : Group) (regs : List RegNum) (written : Option RegNum) : Bool :=
  Groups.has cfg.groups g && regs.all isRegister && !(cfg.r10ReadOnly && written == some 10)

/-- Raise IllegalInstruction(pc) unless the instruction may run; checked before any register is read
(60_exceptions.md R403, R412(2)). -/
def permit (s : State) (g : Group) (regs : List RegNum) (written : Option RegNum) : Except FaultInfo Unit :=
  if mayRun s.cfg g regs written then .ok () else .error (.illegalInstruction s.pc)

/-! ### Memory -/

/-- MemRead(ea, n), zero-extended to 64 bits (20_memory.md R45); for an atomic the checks are those of R305. -/
def State.memRead (s : State) (k : AccessKind) (ea : Word) (n : Nat) : Except FaultInfo Word :=
  match accessCheck s.cfg k ea n with
  | .error f => .error f
  | .ok _ => .ok (s.mem.readValue s.cfg.endian ea.toNat n)

/-- MemWrite(ea, n, v) with v the low `n` bytes of a word (20_memory.md R46). -/
def State.memWrite (s : State) (k : AccessKind) (ea : Word) (n : Nat) (v : Word) : Result :=
  match accessCheck s.cfg k ea n with
  | .error f => .error f
  | .ok _ => .ok { s with mem := s.mem.writeValue s.cfg.endian ea.toNat n v }

/-! ### Control transfer -/

/-- For each slot of the program, whether it is the second slot of a wide instruction: a slot is one when the slot
before it has opcode 0x18 and is not itself one (43_jump.md R202). `second` says it of the first slot. -/
def secondSlots (second : Bool) : List Slot → List Bool
  | [] => []
  | sl :: rest => second :: secondSlots (!second && sl.b0 == 0x18) rest

/-- Slot `i` is the second slot of a wide instruction, by the scan of PROGRAM from slot 0 (43_jump.md R202). -/
def isSecondSlot (program : List Slot) (i : Nat) : Bool := (secondSlots false program).getD i false

/-- ValidTarget(t): 0 <= t < NSLOTS and slot t is no second slot (43_jump.md R201). -/
def validTarget (program : List Slot) (t : Int) : Bool :=
  decide (0 ≤ t) && decide (t < program.length) && !isSecondSlot program t.toNat

/-- The target slot at signed distance `D` from the slot after the jump, an unbounded integer (43_jump.md R201). -/
def State.target (s : State) (D : Int) : Int := s.pc + 1 + D

/-- pc <- t for t = pc + 1 + D, or BadJumpTarget(t) (43_jump.md R201; 60_exceptions.md R404). -/
def State.jump (s : State) (D : Int) : Result :=
  if validTarget s.program (s.target D) then .ok { s with pc := (s.target D).toNat }
  else .error (.badJumpTarget (s.target D))

/-- The call of CALL_LOCAL: the depth is checked first, then the target; the return slot pc + 1 is appended
(43_jump.md R207, R212; 10_state.md R28; 60_exceptions.md R408). -/
def State.call (s : State) (D : Int) : Result :=
  if s.cfg.maxCallDepth ≤ s.callstack.length then .error (.callDepthExceeded s.pc)
  else if validTarget s.program (s.target D) then
    .ok { s with callstack := s.callstack ++ [s.pc + 1], pc := (s.target D).toNat }
  else .error (.badJumpTarget (s.target D))

/-- EXIT (43_jump.md R208, R214): back to the newest return slot, or, with no caller, the end of the run, where pc
stays at the EXIT instruction (70_reset_and_hazards.md R443). -/
def State.leave (s : State) : State :=
  match s.callstack.getLast? with
  | none => { s with status := .exited }
  | some t => { s with callstack := s.callstack.dropLast, pc := t }

end Sys2Proof.Machine
end

