-- ==== Sys2Proof/Machine/Operands.lean ====
section
/-! DEFINITION. The operand forms: the second operand of arithmetic and conditional jumps (an immediate for K, a
register for X) at 32 and 64 bits, and the effective address of a memory instruction. -/

namespace Sys2Proof.Machine

/-- The source operand the source bit selects (30_encoding.md R74). -/
inductive Source where
  /-- K: the imm field. -/
  | imm (v : Imm)
  /-- X: register src_reg. -/
  | reg (r : RegNum)
deriving DecidableEq, Repr

/-- The register fields a source operand uses (30_encoding.md R70). -/
def Source.regFields : Source → List RegNum
  | .imm _ => []
  | .reg r => [r]

/-- `v[31:0]` (10_state.md R22). -/
def low32 (v : Word) : Half := v.setWidth 32

/-- zext_64 of a 32-bit result (40_arithmetic.md R102). -/
def zext64 (v : Half) : Word := v.setWidth 64

/-- sext_64 of a 32-bit immediate (00_scope.md R12; 40_arithmetic.md R103). -/
def sext64 (v : Imm) : Word := v.signExtend 64

/-- The 32-bit operand b of classes ALU and JMP32: the 32 bits of imm, or x[s][31:0]
(40_arithmetic.md R102; 44_jump_cond.md R220). -/
def Source.operand32 (src : Source) (s : State) : Except FaultInfo Half :=
  match src with
  | .imm v => .ok v
  | .reg r => do
    let v ← s.readReg r
    return low32 v

/-- The 64-bit operand b of classes ALU64 and JMP: sext_64(imm), or x[s] (40_arithmetic.md R103; 44_jump_cond.md R220). -/
def Source.operand64 (src : Source) (s : State) : Except FaultInfo Word :=
  match src with
  | .imm v => .ok (sext64 v)
  | .reg r => s.readReg r

/-- The effective address (x[base] + sext_64(offset)) mod 2^64 (45_load_store.md R271). -/
def effAddr (base : Word) (off : Offset) : Word := base + off.signExtend 64

end Sys2Proof.Machine
end

