-- ==== Sys2Proof/Machine/Alu.lean ====
section
/-! DEFINITION. The arithmetic instructions but for multiplication, division and modulo
(40_arithmetic.md, 41_arithmetic2.md), and the four operations all arithmetic is written over. -/

namespace Sys2Proof.Machine

/-- An ALU-class operation on two operands (40_arithmetic.md R101, R102): a = x[d][31:0], b the 32-bit source
operand, x[d] <- zext_64(op a b), pc <- pc + 1. x[d] is read first (60_exceptions.md R407). -/
def alu32 (g : Group) (op : Half → Half → Half) (d : RegNum) (src : Source) (st : State) :
    Host.Outcome State Fault Refusal :=
  finish st do
    permit st g (d :: src.regFields) (some d)
    let a ← st.readReg d
    let b ← src.operand32 st
    return (st.setReg d (zext64 (op (low32 a) b))).advance 1

/-- An ALU64-class operation on two operands (40_arithmetic.md R101, R103): a = x[d], b the 64-bit source operand,
x[d] <- op a b, pc <- pc + 1. -/
def alu64 (g : Group) (op : Word → Word → Word) (d : RegNum) (src : Source) (st : State) :
    Host.Outcome State Fault Refusal :=
  finish st do
    permit st g (d :: src.regFields) (some d)
    let a ← st.readReg d
    let b ← src.operand64 st
    return (st.setReg d (op a b)).advance 1

/-- An ALU-class move: x[d] is written but not read (41_arithmetic2.md R162, R163, R166, R167). -/
def move32 (g : Group) (op : Half → Half) (d : RegNum) (src : Source) (st : State) :
    Host.Outcome State Fault Refusal :=
  finish st do
    permit st g (d :: src.regFields) (some d)
    let b ← src.operand32 st
    return (st.setReg d (zext64 (op b))).advance 1

/-- An ALU64-class move: x[d] is written but not read (41_arithmetic2.md R164, R165, R168-R170). -/
def move64 (g : Group) (op : Word → Word) (d : RegNum) (src : Source) (st : State) :
    Host.Outcome State Fault Refusal :=
  finish st do
    permit st g (d :: src.regFields) (some d)
    let b ← src.operand64 st
    return (st.setReg d (op b)).advance 1

/-- An operation on the destination register alone: x[d] <- op x[d], pc <- pc + 1 (NEG, and the byte swaps of
42_byteswap.md R180). -/
def unary (g : Group) (op : Word → Word) (d : RegNum) (st : State) : Host.Outcome State Fault Refusal :=
  finish st do
    permit st g [d] (some d)
    let a ← st.readReg d
    return (st.setReg d (op a)).advance 1

/-- sext_32 of the low `n` bytes of a 32-bit value (00_scope.md R12; 41_arithmetic2.md R166, R167). -/
def signExtendHalf (n : Nat) (v : Half) : Half := (v.setWidth (8 * n)).signExtend 32

/-- ADD_ALU_K (R112): dst = (u32)((u32)dst + (u32)imm). -/
def execAddAluK (d : RegNum) (imm : Imm) (st : State) : Host.Outcome State Fault Refusal :=
  alu32 .base32 opAdd d (.imm imm) st

/-- ADD_ALU_X (R113): dst = (u32)((u32)dst + (u32)src). -/
def execAddAluX (d : RegNum) (s : RegNum) (st : State) : Host.Outcome State Fault Refusal :=
  alu32 .base32 opAdd d (.reg s) st

/-- ADD_ALU64_K (R114): dst += imm. -/
def execAddAlu64K (d : RegNum) (imm : Imm) (st : State) : Host.Outcome State Fault Refusal :=
  alu64 .base64 opAdd d (.imm imm) st

/-- ADD_ALU64_X (R115): dst += src. -/
def execAddAlu64X (d : RegNum) (s : RegNum) (st : State) : Host.Outcome State Fault Refusal :=
  alu64 .base64 opAdd d (.reg s) st

/-- SUB_ALU_K (R116): dst = (u32)((u32)dst - (u32)imm). -/
def execSubAluK (d : RegNum) (imm : Imm) (st : State) : Host.Outcome State Fault Refusal :=
  alu32 .base32 opSub d (.imm imm) st

/-- SUB_ALU_X (R117): dst = (u32)((u32)dst - (u32)src). -/
def execSubAluX (d : RegNum) (s : RegNum) (st : State) : Host.Outcome State Fault Refusal :=
  alu32 .base32 opSub d (.reg s) st

/-- SUB_ALU64_K (R118): dst -= imm. -/
def execSubAlu64K (d : RegNum) (imm : Imm) (st : State) : Host.Outcome State Fault Refusal :=
  alu64 .base64 opSub d (.imm imm) st

/-- SUB_ALU64_X (R119): dst -= src. -/
def execSubAlu64X (d : RegNum) (s : RegNum) (st : State) : Host.Outcome State Fault Refusal :=
  alu64 .base64 opSub d (.reg s) st

/-- OR_ALU_K (R132): dst = (u32)(dst | imm). -/
def execOrAluK (d : RegNum) (imm : Imm) (st : State) : Host.Outcome State Fault Refusal :=
  alu32 .base32 opOr d (.imm imm) st

/-- OR_ALU_X (R133): dst = (u32)(dst | src). -/
def execOrAluX (d : RegNum) (s : RegNum) (st : State) : Host.Outcome State Fault Refusal :=
  alu32 .base32 opOr d (.reg s) st

/-- OR_ALU64_K (R134): dst |= imm. -/
def execOrAlu64K (d : RegNum) (imm : Imm) (st : State) : Host.Outcome State Fault Refusal :=
  alu64 .base64 opOr d (.imm imm) st

/-- OR_ALU64_X (R135): dst |= src. -/
def execOrAlu64X (d : RegNum) (s : RegNum) (st : State) : Host.Outcome State Fault Refusal :=
  alu64 .base64 opOr d (.reg s) st

/-- AND_ALU_K (R136): dst = (u32)(dst & imm). -/
def execAndAluK (d : RegNum) (imm : Imm) (st : State) : Host.Outcome State Fault Refusal :=
  alu32 .base32 opAnd d (.imm imm) st

/-- AND_ALU_X (R137): dst = (u32)(dst & src). -/
def execAndAluX (d : RegNum) (s : RegNum) (st : State) : Host.Outcome State Fault Refusal :=
  alu32 .base32 opAnd d (.reg s) st

/-- AND_ALU64_K (R138): dst &= imm. -/
def execAndAlu64K (d : RegNum) (imm : Imm) (st : State) : Host.Outcome State Fault Refusal :=
  alu64 .base64 opAnd d (.imm imm) st

/-- AND_ALU64_X (R139): dst &= src. -/
def execAndAlu64X (d : RegNum) (s : RegNum) (st : State) : Host.Outcome State Fault Refusal :=
  alu64 .base64 opAnd d (.reg s) st

/-- XOR_ALU_K (R158): dst = (u32)(dst ^ imm). -/
def execXorAluK (d : RegNum) (imm : Imm) (st : State) : Host.Outcome State Fault Refusal :=
  alu32 .base32 opXor d (.imm imm) st

/-- XOR_ALU_X (R159): dst = (u32)(dst ^ src). -/
def execXorAluX (d : RegNum) (s : RegNum) (st : State) : Host.Outcome State Fault Refusal :=
  alu32 .base32 opXor d (.reg s) st

/-- XOR_ALU64_K (R160): dst ^= imm. -/
def execXorAlu64K (d : RegNum) (imm : Imm) (st : State) : Host.Outcome State Fault Refusal :=
  alu64 .base64 opXor d (.imm imm) st

/-- XOR_ALU64_X (R161): dst ^= src. -/
def execXorAlu64X (d : RegNum) (s : RegNum) (st : State) : Host.Outcome State Fault Refusal :=
  alu64 .base64 opXor d (.reg s) st

/-- LSH_ALU_K (R140): dst = (u32)(dst << imm). -/
def execLshAluK (d : RegNum) (imm : Imm) (st : State) : Host.Outcome State Fault Refusal :=
  alu32 .base32 opLsh d (.imm imm) st

/-- LSH_ALU_X (R141): dst = (u32)(dst << src). -/
def execLshAluX (d : RegNum) (s : RegNum) (st : State) : Host.Outcome State Fault Refusal :=
  alu32 .base32 opLsh d (.reg s) st

/-- LSH_ALU64_K (R142): dst <<= imm. -/
def execLshAlu64K (d : RegNum) (imm : Imm) (st : State) : Host.Outcome State Fault Refusal :=
  alu64 .base64 opLsh d (.imm imm) st

/-- LSH_ALU64_X (R143): dst <<= src. -/
def execLshAlu64X (d : RegNum) (s : RegNum) (st : State) : Host.Outcome State Fault Refusal :=
  alu64 .base64 opLsh d (.reg s) st

/-- RSH_ALU_K (R144): dst = (u32)(dst >> imm). -/
def execRshAluK (d : RegNum) (imm : Imm) (st : State) : Host.Outcome State Fault Refusal :=
  alu32 .base32 opRsh d (.imm imm) st

/-- RSH_ALU_X (R145): dst = (u32)(dst >> src). -/
def execRshAluX (d : RegNum) (s : RegNum) (st : State) : Host.Outcome State Fault Refusal :=
  alu32 .base32 opRsh d (.reg s) st

/-- RSH_ALU64_K (R146): dst >>= imm. -/
def execRshAlu64K (d : RegNum) (imm : Imm) (st : State) : Host.Outcome State Fault Refusal :=
  alu64 .base64 opRsh d (.imm imm) st

/-- RSH_ALU64_X (R147): dst >>= src. -/
def execRshAlu64X (d : RegNum) (s : RegNum) (st : State) : Host.Outcome State Fault Refusal :=
  alu64 .base64 opRsh d (.reg s) st

/-- ARSH_ALU_K (R171): dst = (u32)(dst s>> imm). -/
def execArshAluK (d : RegNum) (imm : Imm) (st : State) : Host.Outcome State Fault Refusal :=
  alu32 .base32 opArsh d (.imm imm) st

/-- ARSH_ALU_X (R172): dst = (u32)(dst s>> src). -/
def execArshAluX (d : RegNum) (s : RegNum) (st : State) : Host.Outcome State Fault Refusal :=
  alu32 .base32 opArsh d (.reg s) st

/-- ARSH_ALU64_K (R173): dst s>>= imm. -/
def execArshAlu64K (d : RegNum) (imm : Imm) (st : State) : Host.Outcome State Fault Refusal :=
  alu64 .base64 opArsh d (.imm imm) st

/-- ARSH_ALU64_X (R174): dst s>>= src. -/
def execArshAlu64X (d : RegNum) (s : RegNum) (st : State) : Host.Outcome State Fault Refusal :=
  alu64 .base64 opArsh d (.reg s) st

/-- NEG_ALU (R148): dst = (u32)-dst. -/
def execNegAlu (d : RegNum) (st : State) : Host.Outcome State Fault Refusal :=
  unary .base32 (fun a => zext64 (opNeg (low32 a))) d st

/-- NEG_ALU64 (R149): dst = -dst. -/
def execNegAlu64 (d : RegNum) (st : State) : Host.Outcome State Fault Refusal :=
  unary .base64 opNeg d st

/-- MOV_ALU_K (R162): dst = (u32) imm. -/
def execMovAluK (d : RegNum) (imm : Imm) (st : State) : Host.Outcome State Fault Refusal :=
  move32 .base32 (fun b => b) d (.imm imm) st

/-- MOV_ALU_X (R163): dst = (u32) src. -/
def execMovAluX (d : RegNum) (s : RegNum) (st : State) : Host.Outcome State Fault Refusal :=
  move32 .base32 (fun b => b) d (.reg s) st

/-- MOV_ALU64_K (R164): dst = imm. -/
def execMovAlu64K (d : RegNum) (imm : Imm) (st : State) : Host.Outcome State Fault Refusal :=
  move64 .base64 (fun b => b) d (.imm imm) st

/-- MOV_ALU64_X (R165): dst = src. -/
def execMovAlu64X (d : RegNum) (s : RegNum) (st : State) : Host.Outcome State Fault Refusal :=
  move64 .base64 (fun b => b) d (.reg s) st

/-- MOVSX8_ALU_X (R166): dst = (u32) (s32) (s8) src. -/
def execMovsx8AluX (d : RegNum) (s : RegNum) (st : State) : Host.Outcome State Fault Refusal :=
  move32 .base32 (signExtendHalf 1) d (.reg s) st

/-- MOVSX16_ALU_X (R167): dst = (u32) (s32) (s16) src. -/
def execMovsx16AluX (d : RegNum) (s : RegNum) (st : State) : Host.Outcome State Fault Refusal :=
  move32 .base32 (signExtendHalf 2) d (.reg s) st

/-- MOVSX8_ALU64_X (R168): dst = (s64) (s8) src. -/
def execMovsx8Alu64X (d : RegNum) (s : RegNum) (st : State) : Host.Outcome State Fault Refusal :=
  move64 .base64 (signExtendBytes 1) d (.reg s) st

/-- MOVSX16_ALU64_X (R169): dst = (s64) (s16) src. -/
def execMovsx16Alu64X (d : RegNum) (s : RegNum) (st : State) : Host.Outcome State Fault Refusal :=
  move64 .base64 (signExtendBytes 2) d (.reg s) st

/-- MOVSX32_ALU64_X (R170): dst = (s64) (s32) src. -/
def execMovsx32Alu64X (d : RegNum) (s : RegNum) (st : State) : Host.Outcome State Fault Refusal :=
  move64 .base64 (signExtendBytes 4) d (.reg s) st

end Sys2Proof.Machine
end

