-- ==== Sys2Proof/Machine/Atomic.lean ====
section
/-! DEFINITION. The atomic operations (46_atomic.md). Reading the old value, computing and writing the new one are
one step (R304); values of W operations are carried zero-extended in a word (R303). -/

namespace Sys2Proof.Machine

/-- The read and the write of a simple atomic or an exchange: the old value of the `n` bytes at `ea`, and the
state with `op old v` stored there (46_atomic.md R304, R305). -/
def State.update (st : State) (n : Nat) (op : Word → Word → Word) (ea v : Word) : Except FaultInfo (Word × State) := do
  let old ← st.memRead .atomic ea n
  let after ← st.memWrite .atomic ea n (op old v)
  return (old, after)

/-- A simple atomic without FETCH: no register is written (46_atomic.md R302). -/
def atomicOp (g : Group) (n : Nat) (op : Word → Word → Word) (d s : RegNum) (off : Offset) (st : State) :
    Host.Outcome State Fault Refusal :=
  finish st do
    permit st g [d, s] none
    let base ← st.readReg d
    let v ← st.readReg s
    let (_, after) ← st.update n op (effAddr base off) (lowBytes n v)
    return after.advance 1

/-- A simple atomic with FETCH, or an exchange: x[s] receives the old value, zero-extended (46_atomic.md R302). -/
def atomicFetch (g : Group) (n : Nat) (op : Word → Word → Word) (d s : RegNum) (off : Offset) (st : State) :
    Host.Outcome State Fault Refusal :=
  finish st do
    permit st g [d, s] (some s)
    let base ← st.readReg d
    let v ← st.readReg s
    let (old, after) ← st.update n op (effAddr base off) (lowBytes n v)
    return (after.setReg s old).advance 1

/-- The write of a compare and exchange, made only if the comparison holds (46_atomic.md R304, R315). -/
def State.memWriteIf (st : State) (holds : Bool) (ea : Word) (n : Nat) (v : Word) : Result :=
  if holds then st.memWrite .atomic ea n v else .ok st

/-- CMPXCHG: x[d], x[s] and x[0] are read in this order; memory is written only if the old value equals the low
bytes of x[0]; x[0] receives the old value, zero-extended, in either case (46_atomic.md R302, R315, R325). The
access needs a readable and writable region even when it writes nothing (R305). -/
def atomicCmpxchg (g : Group) (n : Nat) (d s : RegNum) (off : Offset) (st : State) :
    Host.Outcome State Fault Refusal :=
  finish st do
    permit st g [d, s] none
    let base ← st.readReg d
    let v ← st.readReg s
    let e ← st.readReg 0
    let old ← st.memRead .atomic (effAddr base off) n
    let after ← st.memWriteIf (old == lowBytes n e) (effAddr base off) n (lowBytes n v)
    return (after.setReg 0 old).advance 1

/-- ATOMIC_ADD_W (R306): lock *(u32 *)(dst + offset) += src. -/
def execAtomicAddW (d : RegNum) (s : RegNum) (off : Offset) (st : State) : Host.Outcome State Fault Refusal :=
  atomicOp .atomic32 4 opAdd d s off st

/-- ATOMIC_FETCH_ADD_W (R307): src = atomic_fetch_add_32((u32 *)(dst + offset), src). -/
def execAtomicFetchAddW (d : RegNum) (s : RegNum) (off : Offset) (st : State) : Host.Outcome State Fault Refusal :=
  atomicFetch .atomic32 4 opAdd d s off st

/-- ATOMIC_OR_W (R308): lock *(u32 *)(dst + offset) |= src. -/
def execAtomicOrW (d : RegNum) (s : RegNum) (off : Offset) (st : State) : Host.Outcome State Fault Refusal :=
  atomicOp .atomic32 4 opOr d s off st

/-- ATOMIC_FETCH_OR_W (R309): src = atomic_fetch_or_32((u32 *)(dst + offset), src). -/
def execAtomicFetchOrW (d : RegNum) (s : RegNum) (off : Offset) (st : State) : Host.Outcome State Fault Refusal :=
  atomicFetch .atomic32 4 opOr d s off st

/-- ATOMIC_AND_W (R310): lock *(u32 *)(dst + offset) &= src. -/
def execAtomicAndW (d : RegNum) (s : RegNum) (off : Offset) (st : State) : Host.Outcome State Fault Refusal :=
  atomicOp .atomic32 4 opAnd d s off st

/-- ATOMIC_FETCH_AND_W (R311): src = atomic_fetch_and_32((u32 *)(dst + offset), src). -/
def execAtomicFetchAndW (d : RegNum) (s : RegNum) (off : Offset) (st : State) : Host.Outcome State Fault Refusal :=
  atomicFetch .atomic32 4 opAnd d s off st

/-- ATOMIC_XOR_W (R312): lock *(u32 *)(dst + offset) ^= src. -/
def execAtomicXorW (d : RegNum) (s : RegNum) (off : Offset) (st : State) : Host.Outcome State Fault Refusal :=
  atomicOp .atomic32 4 opXor d s off st

/-- ATOMIC_FETCH_XOR_W (R313): src = atomic_fetch_xor_32((u32 *)(dst + offset), src). -/
def execAtomicFetchXorW (d : RegNum) (s : RegNum) (off : Offset) (st : State) : Host.Outcome State Fault Refusal :=
  atomicFetch .atomic32 4 opXor d s off st

/-- ATOMIC_XCHG_W (R314): src = xchg_32((u32 *)(dst + offset), src). -/
def execAtomicXchgW (d : RegNum) (s : RegNum) (off : Offset) (st : State) : Host.Outcome State Fault Refusal :=
  atomicFetch .atomic32 4 (fun _ v => v) d s off st

/-- ATOMIC_CMPXCHG_W (R315): r0 = cmpxchg_32((u32 *)(dst + offset), r0, src). -/
def execAtomicCmpxchgW (d : RegNum) (s : RegNum) (off : Offset) (st : State) : Host.Outcome State Fault Refusal :=
  atomicCmpxchg .atomic32 4 d s off st

/-- ATOMIC_ADD_DW (R316): lock *(u64 *)(dst + offset) += src. -/
def execAtomicAddDw (d : RegNum) (s : RegNum) (off : Offset) (st : State) : Host.Outcome State Fault Refusal :=
  atomicOp .atomic64 8 opAdd d s off st

/-- ATOMIC_FETCH_ADD_DW (R317): src = atomic_fetch_add_64((u64 *)(dst + offset), src). -/
def execAtomicFetchAddDw (d : RegNum) (s : RegNum) (off : Offset) (st : State) : Host.Outcome State Fault Refusal :=
  atomicFetch .atomic64 8 opAdd d s off st

/-- ATOMIC_OR_DW (R318): lock *(u64 *)(dst + offset) |= src. -/
def execAtomicOrDw (d : RegNum) (s : RegNum) (off : Offset) (st : State) : Host.Outcome State Fault Refusal :=
  atomicOp .atomic64 8 opOr d s off st

/-- ATOMIC_FETCH_OR_DW (R319): src = atomic_fetch_or_64((u64 *)(dst + offset), src). -/
def execAtomicFetchOrDw (d : RegNum) (s : RegNum) (off : Offset) (st : State) : Host.Outcome State Fault Refusal :=
  atomicFetch .atomic64 8 opOr d s off st

/-- ATOMIC_AND_DW (R320): lock *(u64 *)(dst + offset) &= src. -/
def execAtomicAndDw (d : RegNum) (s : RegNum) (off : Offset) (st : State) : Host.Outcome State Fault Refusal :=
  atomicOp .atomic64 8 opAnd d s off st

/-- ATOMIC_FETCH_AND_DW (R321): src = atomic_fetch_and_64((u64 *)(dst + offset), src). -/
def execAtomicFetchAndDw (d : RegNum) (s : RegNum) (off : Offset) (st : State) : Host.Outcome State Fault Refusal :=
  atomicFetch .atomic64 8 opAnd d s off st

/-- ATOMIC_XOR_DW (R322): lock *(u64 *)(dst + offset) ^= src. -/
def execAtomicXorDw (d : RegNum) (s : RegNum) (off : Offset) (st : State) : Host.Outcome State Fault Refusal :=
  atomicOp .atomic64 8 opXor d s off st

/-- ATOMIC_FETCH_XOR_DW (R323): src = atomic_fetch_xor_64((u64 *)(dst + offset), src). -/
def execAtomicFetchXorDw (d : RegNum) (s : RegNum) (off : Offset) (st : State) : Host.Outcome State Fault Refusal :=
  atomicFetch .atomic64 8 opXor d s off st

/-- ATOMIC_XCHG_DW (R324): src = xchg_64((u64 *)(dst + offset), src). -/
def execAtomicXchgDw (d : RegNum) (s : RegNum) (off : Offset) (st : State) : Host.Outcome State Fault Refusal :=
  atomicFetch .atomic64 8 (fun _ v => v) d s off st

/-- ATOMIC_CMPXCHG_DW (R325): r0 = cmpxchg_64((u64 *)(dst + offset), r0, src). -/
def execAtomicCmpxchgDw (d : RegNum) (s : RegNum) (off : Offset) (st : State) : Host.Outcome State Fault Refusal :=
  atomicCmpxchg .atomic64 8 d s off st

end Sys2Proof.Machine
end

