-- ==== Sys2Proof/Machine/ByteSwap.lean ====
section
/-! DEFINITION. The byte swap instructions (42_byteswap.md). The operand is truncated to the width and the result
zero-extended (R183). -/

namespace Sys2Proof.Machine

/-- END_TO_LE16 (R185): dst = htole16(dst). -/
def execEndToLe16 (d : RegNum) (st : State) : Host.Outcome State Fault Refusal :=
  unary .base32 (htole st.cfg.endian 2) d st

/-- END_TO_LE32 (R186): dst = htole32(dst). -/
def execEndToLe32 (d : RegNum) (st : State) : Host.Outcome State Fault Refusal :=
  unary .base32 (htole st.cfg.endian 4) d st

/-- END_TO_LE64 (R187): dst = htole64(dst). -/
def execEndToLe64 (d : RegNum) (st : State) : Host.Outcome State Fault Refusal :=
  unary .base64 (htole st.cfg.endian 8) d st

/-- END_TO_BE16 (R188): dst = htobe16(dst). -/
def execEndToBe16 (d : RegNum) (st : State) : Host.Outcome State Fault Refusal :=
  unary .base32 (htobe st.cfg.endian 2) d st

/-- END_TO_BE32 (R189): dst = htobe32(dst). -/
def execEndToBe32 (d : RegNum) (st : State) : Host.Outcome State Fault Refusal :=
  unary .base32 (htobe st.cfg.endian 4) d st

/-- END_TO_BE64 (R190): dst = htobe64(dst). -/
def execEndToBe64 (d : RegNum) (st : State) : Host.Outcome State Fault Refusal :=
  unary .base64 (htobe st.cfg.endian 8) d st

/-- BSWAP16 (R191): dst = bswap16(dst). -/
def execBswap16 (d : RegNum) (st : State) : Host.Outcome State Fault Refusal :=
  unary .base32 (bswap 2) d st

/-- BSWAP32 (R192): dst = bswap32(dst). -/
def execBswap32 (d : RegNum) (st : State) : Host.Outcome State Fault Refusal :=
  unary .base32 (bswap 4) d st

/-- BSWAP64 (R193): dst = bswap64(dst). -/
def execBswap64 (d : RegNum) (st : State) : Host.Outcome State Fault Refusal :=
  unary .base64 (bswap 8) d st

end Sys2Proof.Machine
end

