-- ==== Sys2Proof/Machine/Flags.lean ====
section
/-! DEFINITION. The machine has no flags (10_state.md R31): no instruction writes or reads one. What other
machines compute from flags are here the eleven conditions of the conditional jumps, on operands of N = 32 or 64
bits (44_jump_cond.md R220). -/

namespace Sys2Proof.Machine

/-- JEQ: the patterns are equal. -/
def condEq {n : Nat} (a b : BitVec n) : Bool := a == b

/-- JNE: the patterns differ. -/
def condNe {n : Nat} (a b : BitVec n) : Bool := a != b

/-- JSET: at least one bit is set in both. -/
def condSet {n : Nat} (a b : BitVec n) : Bool := (a &&& b) != 0#n

/-- JGT: unsigned greater. -/
def condGt {n : Nat} (a b : BitVec n) : Bool := b.toNat < a.toNat

/-- JGE: unsigned greater or equal. -/
def condGe {n : Nat} (a b : BitVec n) : Bool := b.toNat ≤ a.toNat

/-- JLT: unsigned less. -/
def condLt {n : Nat} (a b : BitVec n) : Bool := a.toNat < b.toNat

/-- JLE: unsigned less or equal. -/
def condLe {n : Nat} (a b : BitVec n) : Bool := a.toNat ≤ b.toNat

/-- JSGT: signed greater. -/
def condSgt {n : Nat} (a b : BitVec n) : Bool := b.toInt < a.toInt

/-- JSGE: signed greater or equal. -/
def condSge {n : Nat} (a b : BitVec n) : Bool := b.toInt ≤ a.toInt

/-- JSLT: signed less. -/
def condSlt {n : Nat} (a b : BitVec n) : Bool := a.toInt < b.toInt

/-- JSLE: signed less or equal. -/
def condSle {n : Nat} (a b : BitVec n) : Bool := a.toInt ≤ b.toInt

end Sys2Proof.Machine
end

