-- ==== Sys2Proof/Machine/CondJump.lean ====
section
/-! DEFINITION. The 44 conditional jumps (44_jump_cond.md). -/

namespace Sys2Proof.Machine

/-- Continue at pc + 1 + s16(offset) if the jump is taken, at pc + 1 if not; only a taken jump checks its target
(44_jump_cond.md R220; 60_exceptions.md R404). -/
def State.branch (st : State) (taken : Bool) (off : Offset) : Result :=
  if taken then st.jump off.toInt else .ok (st.advance 1)

/-- A conditional jump of class JMP32: a = x[d][31:0], b the 32-bit source operand (R220). -/
def jumpIf32 (cond : Half → Half → Bool) (d : RegNum) (src : Source) (off : Offset) (st : State) :
    Host.Outcome State Fault Refusal :=
  finish st do
    permit st .base32 (d :: src.regFields) none
    let a ← st.readReg d
    let b ← src.operand32 st
    st.branch (cond (low32 a) b) off

/-- A conditional jump of class JMP: a = x[d], b the 64-bit source operand (R220). -/
def jumpIf64 (cond : Word → Word → Bool) (d : RegNum) (src : Source) (off : Offset) (st : State) :
    Host.Outcome State Fault Refusal :=
  finish st do
    permit st .base64 (d :: src.regFields) none
    let a ← st.readReg d
    let b ← src.operand64 st
    st.branch (cond a b) off

/-- JEQ_JMP_K (R221): if dst == imm goto +offset. -/
def execJeqJmpK (d : RegNum) (off : Offset) (imm : Imm) (st : State) : Host.Outcome State Fault Refusal :=
  jumpIf64 condEq d (.imm imm) off st

/-- JEQ_JMP_X (R222): if dst == src goto +offset. -/
def execJeqJmpX (d : RegNum) (s : RegNum) (off : Offset) (st : State) : Host.Outcome State Fault Refusal :=
  jumpIf64 condEq d (.reg s) off st

/-- JEQ_JMP32_K (R223): if (u32)dst == imm goto +offset. -/
def execJeqJmp32K (d : RegNum) (off : Offset) (imm : Imm) (st : State) : Host.Outcome State Fault Refusal :=
  jumpIf32 condEq d (.imm imm) off st

/-- JEQ_JMP32_X (R224): if (u32)dst == (u32)src goto +offset. -/
def execJeqJmp32X (d : RegNum) (s : RegNum) (off : Offset) (st : State) : Host.Outcome State Fault Refusal :=
  jumpIf32 condEq d (.reg s) off st

/-- JGT_JMP_K (R225): if dst > imm goto +offset. -/
def execJgtJmpK (d : RegNum) (off : Offset) (imm : Imm) (st : State) : Host.Outcome State Fault Refusal :=
  jumpIf64 condGt d (.imm imm) off st

/-- JGT_JMP_X (R226): if dst > src goto +offset. -/
def execJgtJmpX (d : RegNum) (s : RegNum) (off : Offset) (st : State) : Host.Outcome State Fault Refusal :=
  jumpIf64 condGt d (.reg s) off st

/-- JGT_JMP32_K (R227): if (u32)dst > imm goto +offset. -/
def execJgtJmp32K (d : RegNum) (off : Offset) (imm : Imm) (st : State) : Host.Outcome State Fault Refusal :=
  jumpIf32 condGt d (.imm imm) off st

/-- JGT_JMP32_X (R228): if (u32)dst > (u32)src goto +offset. -/
def execJgtJmp32X (d : RegNum) (s : RegNum) (off : Offset) (st : State) : Host.Outcome State Fault Refusal :=
  jumpIf32 condGt d (.reg s) off st

/-- JGE_JMP_K (R229): if dst >= imm goto +offset. -/
def execJgeJmpK (d : RegNum) (off : Offset) (imm : Imm) (st : State) : Host.Outcome State Fault Refusal :=
  jumpIf64 condGe d (.imm imm) off st

/-- JGE_JMP_X (R230): if dst >= src goto +offset. -/
def execJgeJmpX (d : RegNum) (s : RegNum) (off : Offset) (st : State) : Host.Outcome State Fault Refusal :=
  jumpIf64 condGe d (.reg s) off st

/-- JGE_JMP32_K (R231): if (u32)dst >= imm goto +offset. -/
def execJgeJmp32K (d : RegNum) (off : Offset) (imm : Imm) (st : State) : Host.Outcome State Fault Refusal :=
  jumpIf32 condGe d (.imm imm) off st

/-- JGE_JMP32_X (R232): if (u32)dst >= (u32)src goto +offset. -/
def execJgeJmp32X (d : RegNum) (s : RegNum) (off : Offset) (st : State) : Host.Outcome State Fault Refusal :=
  jumpIf32 condGe d (.reg s) off st

/-- JSET_JMP_K (R233): if dst & imm goto +offset. -/
def execJsetJmpK (d : RegNum) (off : Offset) (imm : Imm) (st : State) : Host.Outcome State Fault Refusal :=
  jumpIf64 condSet d (.imm imm) off st

/-- JSET_JMP_X (R234): if dst & src goto +offset. -/
def execJsetJmpX (d : RegNum) (s : RegNum) (off : Offset) (st : State) : Host.Outcome State Fault Refusal :=
  jumpIf64 condSet d (.reg s) off st

/-- JSET_JMP32_K (R235): if (u32)dst & imm goto +offset. -/
def execJsetJmp32K (d : RegNum) (off : Offset) (imm : Imm) (st : State) : Host.Outcome State Fault Refusal :=
  jumpIf32 condSet d (.imm imm) off st

/-- JSET_JMP32_X (R236): if (u32)dst & (u32)src goto +offset. -/
def execJsetJmp32X (d : RegNum) (s : RegNum) (off : Offset) (st : State) : Host.Outcome State Fault Refusal :=
  jumpIf32 condSet d (.reg s) off st

/-- JNE_JMP_K (R237): if dst != imm goto +offset. -/
def execJneJmpK (d : RegNum) (off : Offset) (imm : Imm) (st : State) : Host.Outcome State Fault Refusal :=
  jumpIf64 condNe d (.imm imm) off st

/-- JNE_JMP_X (R238): if dst != src goto +offset. -/
def execJneJmpX (d : RegNum) (s : RegNum) (off : Offset) (st : State) : Host.Outcome State Fault Refusal :=
  jumpIf64 condNe d (.reg s) off st

/-- JNE_JMP32_K (R239): if (u32)dst != imm goto +offset. -/
def execJneJmp32K (d : RegNum) (off : Offset) (imm : Imm) (st : State) : Host.Outcome State Fault Refusal :=
  jumpIf32 condNe d (.imm imm) off st

/-- JNE_JMP32_X (R240): if (u32)dst != (u32)src goto +offset. -/
def execJneJmp32X (d : RegNum) (s : RegNum) (off : Offset) (st : State) : Host.Outcome State Fault Refusal :=
  jumpIf32 condNe d (.reg s) off st

/-- JSGT_JMP_K (R241): if dst s> imm goto +offset. -/
def execJsgtJmpK (d : RegNum) (off : Offset) (imm : Imm) (st : State) : Host.Outcome State Fault Refusal :=
  jumpIf64 condSgt d (.imm imm) off st

/-- JSGT_JMP_X (R242): if dst s> src goto +offset. -/
def execJsgtJmpX (d : RegNum) (s : RegNum) (off : Offset) (st : State) : Host.Outcome State Fault Refusal :=
  jumpIf64 condSgt d (.reg s) off st

/-- JSGT_JMP32_K (R243): if (s32)dst s> (s32)imm goto +offset. -/
def execJsgtJmp32K (d : RegNum) (off : Offset) (imm : Imm) (st : State) : Host.Outcome State Fault Refusal :=
  jumpIf32 condSgt d (.imm imm) off st

/-- JSGT_JMP32_X (R244): if (s32)dst s> (s32)src goto +offset. -/
def execJsgtJmp32X (d : RegNum) (s : RegNum) (off : Offset) (st : State) : Host.Outcome State Fault Refusal :=
  jumpIf32 condSgt d (.reg s) off st

/-- JSGE_JMP_K (R245): if dst s>= imm goto +offset. -/
def execJsgeJmpK (d : RegNum) (off : Offset) (imm : Imm) (st : State) : Host.Outcome State Fault Refusal :=
  jumpIf64 condSge d (.imm imm) off st

/-- JSGE_JMP_X (R246): if dst s>= src goto +offset. -/
def execJsgeJmpX (d : RegNum) (s : RegNum) (off : Offset) (st : State) : Host.Outcome State Fault Refusal :=
  jumpIf64 condSge d (.reg s) off st

/-- JSGE_JMP32_K (R247): if (s32)dst s>= (s32)imm goto +offset. -/
def execJsgeJmp32K (d : RegNum) (off : Offset) (imm : Imm) (st : State) : Host.Outcome State Fault Refusal :=
  jumpIf32 condSge d (.imm imm) off st

/-- JSGE_JMP32_X (R248): if (s32)dst s>= (s32)src goto +offset. -/
def execJsgeJmp32X (d : RegNum) (s : RegNum) (off : Offset) (st : State) : Host.Outcome State Fault Refusal :=
  jumpIf32 condSge d (.reg s) off st

/-- JLT_JMP_K (R249): if dst < imm goto +offset. -/
def execJltJmpK (d : RegNum) (off : Offset) (imm : Imm) (st : State) : Host.Outcome State Fault Refusal :=
  jumpIf64 condLt d (.imm imm) off st

/-- JLT_JMP_X (R250): if dst < src goto +offset. -/
def execJltJmpX (d : RegNum) (s : RegNum) (off : Offset) (st : State) : Host.Outcome State Fault Refusal :=
  jumpIf64 condLt d (.reg s) off st

/-- JLT_JMP32_K (R251): if (u32)dst < imm goto +offset. -/
def execJltJmp32K (d : RegNum) (off : Offset) (imm : Imm) (st : State) : Host.Outcome State Fault Refusal :=
  jumpIf32 condLt d (.imm imm) off st

/-- JLT_JMP32_X (R252): if (u32)dst < (u32)src goto +offset. -/
def execJltJmp32X (d : RegNum) (s : RegNum) (off : Offset) (st : State) : Host.Outcome State Fault Refusal :=
  jumpIf32 condLt d (.reg s) off st

/-- JLE_JMP_K (R253): if dst <= imm goto +offset. -/
def execJleJmpK (d : RegNum) (off : Offset) (imm : Imm) (st : State) : Host.Outcome State Fault Refusal :=
  jumpIf64 condLe d (.imm imm) off st

/-- JLE_JMP_X (R254): if dst <= src goto +offset. -/
def execJleJmpX (d : RegNum) (s : RegNum) (off : Offset) (st : State) : Host.Outcome State Fault Refusal :=
  jumpIf64 condLe d (.reg s) off st

/-- JLE_JMP32_K (R255): if (u32)dst <= imm goto +offset. -/
def execJleJmp32K (d : RegNum) (off : Offset) (imm : Imm) (st : State) : Host.Outcome State Fault Refusal :=
  jumpIf32 condLe d (.imm imm) off st

/-- JLE_JMP32_X (R256): if (u32)dst <= (u32)src goto +offset. -/
def execJleJmp32X (d : RegNum) (s : RegNum) (off : Offset) (st : State) : Host.Outcome State Fault Refusal :=
  jumpIf32 condLe d (.reg s) off st

/-- JSLT_JMP_K (R257): if dst s< imm goto +offset. -/
def execJsltJmpK (d : RegNum) (off : Offset) (imm : Imm) (st : State) : Host.Outcome State Fault Refusal :=
  jumpIf64 condSlt d (.imm imm) off st

/-- JSLT_JMP_X (R258): if dst s< src goto +offset. -/
def execJsltJmpX (d : RegNum) (s : RegNum) (off : Offset) (st : State) : Host.Outcome State Fault Refusal :=
  jumpIf64 condSlt d (.reg s) off st

/-- JSLT_JMP32_K (R259): if (s32)dst s< (s32)imm goto +offset. -/
def execJsltJmp32K (d : RegNum) (off : Offset) (imm : Imm) (st : State) : Host.Outcome State Fault Refusal :=
  jumpIf32 condSlt d (.imm imm) off st

/-- JSLT_JMP32_X (R260): if (s32)dst s< (s32)src goto +offset. -/
def execJsltJmp32X (d : RegNum) (s : RegNum) (off : Offset) (st : State) : Host.Outcome State Fault Refusal :=
  jumpIf32 condSlt d (.reg s) off st

/-- JSLE_JMP_K (R261): if dst s<= imm goto +offset. -/
def execJsleJmpK (d : RegNum) (off : Offset) (imm : Imm) (st : State) : Host.Outcome State Fault Refusal :=
  jumpIf64 condSle d (.imm imm) off st

/-- JSLE_JMP_X (R262): if dst s<= src goto +offset. -/
def execJsleJmpX (d : RegNum) (s : RegNum) (off : Offset) (st : State) : Host.Outcome State Fault Refusal :=
  jumpIf64 condSle d (.reg s) off st

/-- JSLE_JMP32_K (R263): if (s32)dst s<= (s32)imm goto +offset. -/
def execJsleJmp32K (d : RegNum) (off : Offset) (imm : Imm) (st : State) : Host.Outcome State Fault Refusal :=
  jumpIf32 condSle d (.imm imm) off st

/-- JSLE_JMP32_X (R264): if (s32)dst s<= (s32)src goto +offset. -/
def execJsleJmp32X (d : RegNum) (s : RegNum) (off : Offset) (st : State) : Host.Outcome State Fault Refusal :=
  jumpIf32 condSle d (.reg s) off st

end Sys2Proof.Machine
end

