-- ==== Sys2Proof/Machine/DivMul.lean ====
section
/-! DEFINITION. Multiplication, division and modulo: the conformance groups divmul32 and divmul64 (40_arithmetic.md
R105-R107, R111; 41_arithmetic2.md R150-R157). None of them faults on any operand (60_exceptions.md R414). -/

namespace Sys2Proof.Machine

/-- MUL_ALU_K (R120): dst = (u32)(dst * imm). -/
def execMulAluK (d : RegNum) (imm : Imm) (st : State) : Host.Outcome State Fault Refusal :=
  alu32 .divmul32 opMul d (.imm imm) st

/-- MUL_ALU_X (R121): dst = (u32)(dst * src). -/
def execMulAluX (d : RegNum) (s : RegNum) (st : State) : Host.Outcome State Fault Refusal :=
  alu32 .divmul32 opMul d (.reg s) st

/-- MUL_ALU64_K (R122): dst *= imm. -/
def execMulAlu64K (d : RegNum) (imm : Imm) (st : State) : Host.Outcome State Fault Refusal :=
  alu64 .divmul64 opMul d (.imm imm) st

/-- MUL_ALU64_X (R123): dst *= src. -/
def execMulAlu64X (d : RegNum) (s : RegNum) (st : State) : Host.Outcome State Fault Refusal :=
  alu64 .divmul64 opMul d (.reg s) st

/-- DIV_ALU_K (R124): dst = (u32)((imm != 0) ? ((u32)dst / (u32)imm) : 0). -/
def execDivAluK (d : RegNum) (imm : Imm) (st : State) : Host.Outcome State Fault Refusal :=
  alu32 .divmul32 opDiv d (.imm imm) st

/-- DIV_ALU_X (R125): dst = (u32)((src != 0) ? ((u32)dst / (u32)src) : 0). -/
def execDivAluX (d : RegNum) (s : RegNum) (st : State) : Host.Outcome State Fault Refusal :=
  alu32 .divmul32 opDiv d (.reg s) st

/-- DIV_ALU64_K (R126): dst = (imm != 0) ? (dst / (u64)(s64)imm) : 0. -/
def execDivAlu64K (d : RegNum) (imm : Imm) (st : State) : Host.Outcome State Fault Refusal :=
  alu64 .divmul64 opDiv d (.imm imm) st

/-- DIV_ALU64_X (R127): dst = (src != 0) ? (dst / src) : 0. -/
def execDivAlu64X (d : RegNum) (s : RegNum) (st : State) : Host.Outcome State Fault Refusal :=
  alu64 .divmul64 opDiv d (.reg s) st

/-- SDIV_ALU_K (R128): dst = (u32)((imm != 0) ? ((s32)dst s/ imm) : 0). -/
def execSdivAluK (d : RegNum) (imm : Imm) (st : State) : Host.Outcome State Fault Refusal :=
  alu32 .divmul32 opSdiv d (.imm imm) st

/-- SDIV_ALU_X (R129): dst = (u32)((src != 0) ? ((s32)dst s/(s32)src) : 0). -/
def execSdivAluX (d : RegNum) (s : RegNum) (st : State) : Host.Outcome State Fault Refusal :=
  alu32 .divmul32 opSdiv d (.reg s) st

/-- SDIV_ALU64_K (R130): dst = (imm != 0) ? (dst s/ imm) : 0. -/
def execSdivAlu64K (d : RegNum) (imm : Imm) (st : State) : Host.Outcome State Fault Refusal :=
  alu64 .divmul64 opSdiv d (.imm imm) st

/-- SDIV_ALU64_X (R131): dst = (src != 0) ? (dst s/ src) : 0. -/
def execSdivAlu64X (d : RegNum) (s : RegNum) (st : State) : Host.Outcome State Fault Refusal :=
  alu64 .divmul64 opSdiv d (.reg s) st

/-- MOD_ALU_K (R150): dst = (u32)((imm != 0)?((u32)dst % (u32)imm) : dst). -/
def execModAluK (d : RegNum) (imm : Imm) (st : State) : Host.Outcome State Fault Refusal :=
  alu32 .divmul32 opMod d (.imm imm) st

/-- MOD_ALU_X (R151): dst = (u32)((src != 0)?((u32)dst % (u32)src) : dst). -/
def execModAluX (d : RegNum) (s : RegNum) (st : State) : Host.Outcome State Fault Refusal :=
  alu32 .divmul32 opMod d (.reg s) st

/-- MOD_ALU64_K (R152): dst = (imm != 0) ? (dst % (u64)(s64)imm) : dst. -/
def execModAlu64K (d : RegNum) (imm : Imm) (st : State) : Host.Outcome State Fault Refusal :=
  alu64 .divmul64 opMod d (.imm imm) st

/-- MOD_ALU64_X (R153): dst = (src != 0) ? (dst % src) : dst. -/
def execModAlu64X (d : RegNum) (s : RegNum) (st : State) : Host.Outcome State Fault Refusal :=
  alu64 .divmul64 opMod d (.reg s) st

/-- SMOD_ALU_K (R154): dst = (u32)((imm != 0) ? ((s32)dst s% imm) : dst). -/
def execSmodAluK (d : RegNum) (imm : Imm) (st : State) : Host.Outcome State Fault Refusal :=
  alu32 .divmul32 opSmod d (.imm imm) st

/-- SMOD_ALU_X (R155): dst = (u32)((src != 0)?((s32)dst s% (s32)src) :dst). -/
def execSmodAluX (d : RegNum) (s : RegNum) (st : State) : Host.Outcome State Fault Refusal :=
  alu32 .divmul32 opSmod d (.reg s) st

/-- SMOD_ALU64_K (R156): dst = (imm != 0) ? (dst s% imm) : dst. -/
def execSmodAlu64K (d : RegNum) (imm : Imm) (st : State) : Host.Outcome State Fault Refusal :=
  alu64 .divmul64 opSmod d (.imm imm) st

/-- SMOD_ALU64_X (R157): dst = (src != 0) ? (dst s% src) : dst. -/
def execSmodAlu64X (d : RegNum) (s : RegNum) (st : State) : Host.Outcome State Fault Refusal :=
  alu64 .divmul64 opSmod d (.reg s) st

end Sys2Proof.Machine
end

