-- ==== Sys2Proof/Machine/Imm64.lean ====
section
/-! DEFINITION. The 64-bit immediate loads and the second slot of a wide instruction (47_imm64.md). -/

namespace Sys2Proof.Machine

/-- map_val(map) + next_imm, next_imm zero-extended, modulo 2^64 (47_imm64.md R343, R346). -/
def mapValue (cfg : Config) (map : Option Word) (nextImm : Imm) : Option Word :=
  match map with
  | none => none
  | some m => (cfg.mapVal.lookup m).map fun a => a + zext64 nextImm

/-- A 64-bit immediate load: x[d] <- the value, pc <- pc + 2; PlatformRefused(subtype, imm) where the platform
function has no answer (47_imm64.md R340, R343; 60_exceptions.md R410). No register is read. -/
def loadWide (subtype : BitVec 4) (imm : Imm) (value : Option Word) (d : RegNum) (st : State) :
    Host.Outcome State Fault Refusal :=
  finish st do
    permit st .base64 [d] (some d)
    match value with
    | some v => return (st.setReg d v).advance 2
    | none => .error (.platformRefused subtype imm)

/-- LD_IMM64 (R349): dst = (next_imm << 32) | imm. -/
def execLdImm64 (d : RegNum) (imm : Imm) (nextImm : Imm) (st : State) : Host.Outcome State Fault Refusal :=
  loadWide 0 imm (some ((zext64 nextImm <<< 32) ||| zext64 imm)) d st

/-- LD_MAP_BY_FD (R350): dst = map_by_fd(imm). -/
def execLdMapByFd (d : RegNum) (imm : Imm) (st : State) : Host.Outcome State Fault Refusal :=
  loadWide 1 imm (st.cfg.mapByFd.lookup imm) d st

/-- LD_MAP_VAL_BY_FD (R351): dst = map_val(map_by_fd(imm)) + next_imm. -/
def execLdMapValByFd (d : RegNum) (imm : Imm) (nextImm : Imm) (st : State) : Host.Outcome State Fault Refusal :=
  loadWide 2 imm (mapValue st.cfg (st.cfg.mapByFd.lookup imm) nextImm) d st

/-- LD_VAR_ADDR (R352): dst = var_addr(imm). -/
def execLdVarAddr (d : RegNum) (imm : Imm) (st : State) : Host.Outcome State Fault Refusal :=
  loadWide 3 imm (st.cfg.varAddr.lookup imm) d st

/-- LD_CODE_ADDR (R353): dst = code_addr(imm). -/
def execLdCodeAddr (d : RegNum) (imm : Imm) (st : State) : Host.Outcome State Fault Refusal :=
  loadWide 4 imm (st.cfg.codeAddr.lookup (st.pc, imm.toInt)) d st

/-- LD_MAP_BY_IDX (R354): dst = map_by_idx(imm). -/
def execLdMapByIdx (d : RegNum) (imm : Imm) (st : State) : Host.Outcome State Fault Refusal :=
  loadWide 5 imm (st.cfg.mapByIdx.lookup imm) d st

/-- LD_MAP_VAL_BY_IDX (R355): dst = map_val(map_by_idx(imm)) + next_imm. -/
def execLdMapValByIdx (d : RegNum) (imm : Imm) (nextImm : Imm) (st : State) : Host.Outcome State Fault Refusal :=
  loadWide 6 imm (mapValue st.cfg (st.cfg.mapByIdx.lookup imm) nextImm) d st

/-- WIDE_SECOND_SLOT (R356): not an instruction; reached as one, it raises IllegalInstruction(pc) whatever it
holds. -/
def execWideSecondSlot (_imm : Imm) (st : State) : Host.Outcome State Fault Refusal :=
  finish st (.error (.illegalInstruction st.pc))

end Sys2Proof.Machine
end

