-- ==== Sys2Proof/Machine/Jump.lean ====
section
/-! DEFINITION. The unconditional jumps, the three calls and EXIT (43_jump.md). -/

namespace Sys2Proof.Machine

/-- The state after a helper call that answers `o` (43_jump.md R206): its registers, its writes to writable
memory (log 10), its private state, and pc + 1; or the end of the run (log 9); or the fault it raises. -/
def State.afterHelper (st : State) (o : HelperOutcome) : Result :=
  match o with
  | .returns regs writes platform =>
    .ok { st with
      regs := regs
      mem := applyWrites (fun a => allowed st.cfg.regions .store a 1) st.mem writes
      platform := platform
      pc := st.pc + 1 }
  | .ends regs writes platform pc =>
    .ok { st with
      regs := regs
      mem := applyWrites (fun a => allowed st.cfg.regions .store a 1) st.mem writes
      platform := platform
      pc := pc
      status := .exited }
  | .faults f => .error f

/-- A helper call of the given kind: UnknownHelper(kind, id) unless the platform supplies the helper, else what
its contract says (43_jump.md R206, R211, R213; 60_exceptions.md R409). -/
def callPlatform (kind : HelperKind) (id : Imm) (st : State) : Host.Outcome State Fault Refusal :=
  finish st do
    permit st .base32 [] none
    if (kind, id) ∈ st.cfg.helpers then
      st.afterHelper (Config.helper kind id st.cfg st.regs st.mem st.platform)
    else .error (.unknownHelper kind id)

/-- JA_JMP (R209): goto +offset. -/
def execJaJmp (off : Offset) (st : State) : Host.Outcome State Fault Refusal :=
  finish st do
    permit st .base32 [] none
    st.jump off.toInt

/-- JA_JMP32 (R210): goto +imm. -/
def execJaJmp32 (imm : Imm) (st : State) : Host.Outcome State Fault Refusal :=
  finish st do
    permit st .base32 [] none
    st.jump imm.toInt

/-- CALL_HELPER (R211): call helper function by static ID. -/
def execCallHelper (imm : Imm) (st : State) : Host.Outcome State Fault Refusal :=
  callPlatform .staticId imm st

/-- CALL_LOCAL (R212): call PC += imm. -/
def execCallLocal (imm : Imm) (st : State) : Host.Outcome State Fault Refusal :=
  finish st do
    permit st .base32 [] none
    st.call imm.toInt

/-- CALL_HELPER_BTF (R213): call helper function by BTF ID. -/
def execCallHelperBtf (imm : Imm) (st : State) : Host.Outcome State Fault Refusal :=
  callPlatform .btfId imm st

/-- EXIT (R214): return. -/
def execExit (st : State) : Host.Outcome State Fault Refusal :=
  finish st do
    permit st .base32 [] none
    return st.leave

end Sys2Proof.Machine
end

