-- ==== Sys2Proof/Machine/LoadStore.lean ====
section
/-! DEFINITION. The regular and sign-extending loads and the stores (45_load_store.md). -/

namespace Sys2Proof.Machine

/-- A load of `n` bytes: ea from x[s], x[d] <- the extended value, pc <- pc + 1 (45_load_store.md R271, R272).
x[d] is written, not read. -/
def loadMem (g : Group) (n : Nat) (extend : Word → Word) (d s : RegNum) (off : Offset) (st : State) :
    Host.Outcome State Fault Refusal :=
  finish st do
    permit st g [d, s] (some d)
    let base ← st.readReg s
    let v ← st.memRead .load (effAddr base off) n
    return (st.setReg d (extend v)).advance 1

/-- A store of the low `n` bytes of an immediate: imm sign-extended to 64 bits, of which the low bytes are kept
(45_load_store.md R271, R273). -/
def storeImm (g : Group) (n : Nat) (d : RegNum) (off : Offset) (imm : Imm) (st : State) :
    Host.Outcome State Fault Refusal :=
  finish st do
    permit st g [d] none
    let base ← st.readReg d
    let after ← st.memWrite .store (effAddr base off) n (sext64 imm)
    return after.advance 1

/-- A store of the low `n` bytes of x[s]; x[d], the base, is read first (45_load_store.md R271, R273). -/
def storeReg (g : Group) (n : Nat) (d s : RegNum) (off : Offset) (st : State) :
    Host.Outcome State Fault Refusal :=
  finish st do
    permit st g [d, s] none
    let base ← st.readReg d
    let v ← st.readReg s
    let after ← st.memWrite .store (effAddr base off) n v
    return after.advance 1

/-- LDX_MEM_B (R275): dst = *(u8 *)(src + offset). -/
def execLdxMemB (d : RegNum) (s : RegNum) (off : Offset) (st : State) : Host.Outcome State Fault Refusal :=
  loadMem .base32 1 (fun v => v) d s off st

/-- LDX_MEM_H (R276): dst = *(u16 *)(src + offset). -/
def execLdxMemH (d : RegNum) (s : RegNum) (off : Offset) (st : State) : Host.Outcome State Fault Refusal :=
  loadMem .base32 2 (fun v => v) d s off st

/-- LDX_MEM_W (R277): dst = *(u32 *)(src + offset). -/
def execLdxMemW (d : RegNum) (s : RegNum) (off : Offset) (st : State) : Host.Outcome State Fault Refusal :=
  loadMem .base32 4 (fun v => v) d s off st

/-- LDX_MEM_DW (R278): dst = *(u64 *)(src + offset). -/
def execLdxMemDw (d : RegNum) (s : RegNum) (off : Offset) (st : State) : Host.Outcome State Fault Refusal :=
  loadMem .base64 8 (fun v => v) d s off st

/-- ST_MEM_B (R279): *(u8 *)(dst + offset) = imm. -/
def execStMemB (d : RegNum) (off : Offset) (imm : Imm) (st : State) : Host.Outcome State Fault Refusal :=
  storeImm .base32 1 d off imm st

/-- ST_MEM_H (R280): *(u16 *)(dst + offset) = imm. -/
def execStMemH (d : RegNum) (off : Offset) (imm : Imm) (st : State) : Host.Outcome State Fault Refusal :=
  storeImm .base32 2 d off imm st

/-- ST_MEM_W (R281): *(u32 *)(dst + offset) = imm. -/
def execStMemW (d : RegNum) (off : Offset) (imm : Imm) (st : State) : Host.Outcome State Fault Refusal :=
  storeImm .base32 4 d off imm st

/-- ST_MEM_DW (R282): *(u64 *)(dst + offset) = imm. -/
def execStMemDw (d : RegNum) (off : Offset) (imm : Imm) (st : State) : Host.Outcome State Fault Refusal :=
  storeImm .base64 8 d off imm st

/-- STX_MEM_B (R283): *(u8 *)(dst + offset) = src. -/
def execStxMemB (d : RegNum) (s : RegNum) (off : Offset) (st : State) : Host.Outcome State Fault Refusal :=
  storeReg .base32 1 d s off st

/-- STX_MEM_H (R284): *(u16 *)(dst + offset) = src. -/
def execStxMemH (d : RegNum) (s : RegNum) (off : Offset) (st : State) : Host.Outcome State Fault Refusal :=
  storeReg .base32 2 d s off st

/-- STX_MEM_W (R285): *(u32 *)(dst + offset) = src. -/
def execStxMemW (d : RegNum) (s : RegNum) (off : Offset) (st : State) : Host.Outcome State Fault Refusal :=
  storeReg .base32 4 d s off st

/-- STX_MEM_DW (R286): *(u64 *)(dst + offset) = src. -/
def execStxMemDw (d : RegNum) (s : RegNum) (off : Offset) (st : State) : Host.Outcome State Fault Refusal :=
  storeReg .base64 8 d s off st

/-- LDX_MEMSX_B (R287): dst = *(signed size *) (src + offset). -/
def execLdxMemsxB (d : RegNum) (s : RegNum) (off : Offset) (st : State) : Host.Outcome State Fault Refusal :=
  loadMem .base32 1 (signExtendBytes 1) d s off st

/-- LDX_MEMSX_H (R288): dst = *(signed size *) (src + offset). -/
def execLdxMemsxH (d : RegNum) (s : RegNum) (off : Offset) (st : State) : Host.Outcome State Fault Refusal :=
  loadMem .base32 2 (signExtendBytes 2) d s off st

/-- LDX_MEMSX_W (R289): dst = *(signed size *) (src + offset). -/
def execLdxMemsxW (d : RegNum) (s : RegNum) (off : Offset) (st : State) : Host.Outcome State Fault Refusal :=
  loadMem .base32 4 (signExtendBytes 4) d s off st

end Sys2Proof.Machine
end

