-- ==== Sys2Proof/Machine/Packet.lean ====
section
/-! DEFINITION. The six legacy packet loads (48_legacy_packet.md R360-R366). Their effect is the platform's. -/

namespace Sys2Proof.Machine

/-- The state after PacketAccess answers `o`: registers, memory, pc and status are the platform's (R360). The
bytes it may change are those of REGIONS; the call stack and the helpers' private state stay as they are (log 12). -/
def State.afterPacket (st : State) (o : PacketOutcome) : State :=
  { st with
    regs := o.regs
    mem := applyWrites (byteExists st.cfg.regions) st.mem o.writes
    pc := o.pc
    status := o.status }

/-- Hand the state to PacketAccess, or raise Unsupported(pc) where the platform supplies none (R360(3), R360(4);
60_exceptions.md R411). -/
def State.packetAccess (st : State) (mode : PacketMode) (size : Nat) (value : Option Word) (imm : Imm) : Result :=
  if st.cfg.packetAccess then
    .ok (st.afterPacket (Config.packetResult mode size value imm st.cfg st.regs st.mem st.pc st.status st.callstack
      st.program st.platform))
  else .error (.unsupported st.pc)

/-- A packet load with mode ABS; IllegalInstruction(pc) unless packet is in GROUPS (R360(2)). -/
def packetAbs (size : Nat) (imm : Imm) (st : State) : Host.Outcome State Fault Refusal :=
  finish st do
    permit st .packet [] none
    st.packetAccess .abs size none imm

/-- A packet load with mode IND: x[s] is read before PacketAccess is asked for (60_exceptions.md R412; log 13). -/
def packetInd (size : Nat) (s : RegNum) (imm : Imm) (st : State) : Host.Outcome State Fault Refusal :=
  finish st do
    permit st .packet [s] none
    let v ← st.readReg s
    st.packetAccess .ind size (some v) imm

/-- LD_ABS_W (R361): (deprecated, implementation-specific). -/
def execLdAbsW (imm : Imm) (st : State) : Host.Outcome State Fault Refusal :=
  packetAbs 4 imm st

/-- LD_ABS_H (R362): (deprecated, implementation-specific). -/
def execLdAbsH (imm : Imm) (st : State) : Host.Outcome State Fault Refusal :=
  packetAbs 2 imm st

/-- LD_ABS_B (R363): (deprecated, implementation-specific). -/
def execLdAbsB (imm : Imm) (st : State) : Host.Outcome State Fault Refusal :=
  packetAbs 1 imm st

/-- LD_IND_W (R364): (deprecated, implementation-specific). -/
def execLdIndW (s : RegNum) (imm : Imm) (st : State) : Host.Outcome State Fault Refusal :=
  packetInd 4 s imm st

/-- LD_IND_H (R365): (deprecated, implementation-specific). -/
def execLdIndH (s : RegNum) (imm : Imm) (st : State) : Host.Outcome State Fault Refusal :=
  packetInd 2 s imm st

/-- LD_IND_B (R366): (deprecated, implementation-specific). -/
def execLdIndB (s : RegNum) (imm : Imm) (st : State) : Host.Outcome State Fault Refusal :=
  packetInd 1 s imm st

end Sys2Proof.Machine
end

