-- ==== Sys2Proof/Machine/Dispatch.lean ====
section
/-! DEFINITION. One arm per constructor of `Instr`, in the order of spec/opcode_table.json. -/

namespace Sys2Proof.Machine

/-- The effect of one decoded instruction (10_state.md R35(4), R35(5)). -/
def exec (i : Instr) (s : State) : Host.Outcome State Fault Refusal :=
  match i with
  | .addAluK d imm => Sys2Proof.Machine.execAddAluK d imm s
  | .addAluX d src => Sys2Proof.Machine.execAddAluX d src s
  | .addAlu64K d imm => Sys2Proof.Machine.execAddAlu64K d imm s
  | .addAlu64X d src => Sys2Proof.Machine.execAddAlu64X d src s
  | .subAluK d imm => Sys2Proof.Machine.execSubAluK d imm s
  | .subAluX d src => Sys2Proof.Machine.execSubAluX d src s
  | .subAlu64K d imm => Sys2Proof.Machine.execSubAlu64K d imm s
  | .subAlu64X d src => Sys2Proof.Machine.execSubAlu64X d src s
  | .mulAluK d imm => Sys2Proof.Machine.execMulAluK d imm s
  | .mulAluX d src => Sys2Proof.Machine.execMulAluX d src s
  | .mulAlu64K d imm => Sys2Proof.Machine.execMulAlu64K d imm s
  | .mulAlu64X d src => Sys2Proof.Machine.execMulAlu64X d src s
  | .divAluK d imm => Sys2Proof.Machine.execDivAluK d imm s
  | .divAluX d src => Sys2Proof.Machine.execDivAluX d src s
  | .divAlu64K d imm => Sys2Proof.Machine.execDivAlu64K d imm s
  | .divAlu64X d src => Sys2Proof.Machine.execDivAlu64X d src s
  | .sdivAluK d imm => Sys2Proof.Machine.execSdivAluK d imm s
  | .sdivAluX d src => Sys2Proof.Machine.execSdivAluX d src s
  | .sdivAlu64K d imm => Sys2Proof.Machine.execSdivAlu64K d imm s
  | .sdivAlu64X d src => Sys2Proof.Machine.execSdivAlu64X d src s
  | .orAluK d imm => Sys2Proof.Machine.execOrAluK d imm s
  | .orAluX d src => Sys2Proof.Machine.execOrAluX d src s
  | .orAlu64K d imm => Sys2Proof.Machine.execOrAlu64K d imm s
  | .orAlu64X d src => Sys2Proof.Machine.execOrAlu64X d src s
  | .andAluK d imm => Sys2Proof.Machine.execAndAluK d imm s
  | .andAluX d src => Sys2Proof.Machine.execAndAluX d src s
  | .andAlu64K d imm => Sys2Proof.Machine.execAndAlu64K d imm s
  | .andAlu64X d src => Sys2Proof.Machine.execAndAlu64X d src s
  | .lshAluK d imm => Sys2Proof.Machine.execLshAluK d imm s
  | .lshAluX d src => Sys2Proof.Machine.execLshAluX d src s
  | .lshAlu64K d imm => Sys2Proof.Machine.execLshAlu64K d imm s
  | .lshAlu64X d src => Sys2Proof.Machine.execLshAlu64X d src s
  | .rshAluK d imm => Sys2Proof.Machine.execRshAluK d imm s
  | .rshAluX d src => Sys2Proof.Machine.execRshAluX d src s
  | .rshAlu64K d imm => Sys2Proof.Machine.execRshAlu64K d imm s
  | .rshAlu64X d src => Sys2Proof.Machine.execRshAlu64X d src s
  | .negAlu d => Sys2Proof.Machine.execNegAlu d s
  | .negAlu64 d => Sys2Proof.Machine.execNegAlu64 d s
  | .modAluK d imm => Sys2Proof.Machine.execModAluK d imm s
  | .modAluX d src => Sys2Proof.Machine.execModAluX d src s
  | .modAlu64K d imm => Sys2Proof.Machine.execModAlu64K d imm s
  | .modAlu64X d src => Sys2Proof.Machine.execModAlu64X d src s
  | .smodAluK d imm => Sys2Proof.Machine.execSmodAluK d imm s
  | .smodAluX d src => Sys2Proof.Machine.execSmodAluX d src s
  | .smodAlu64K d imm => Sys2Proof.Machine.execSmodAlu64K d imm s
  | .smodAlu64X d src => Sys2Proof.Machine.execSmodAlu64X d src s
  | .xorAluK d imm => Sys2Proof.Machine.execXorAluK d imm s
  | .xorAluX d src => Sys2Proof.Machine.execXorAluX d src s
  | .xorAlu64K d imm => Sys2Proof.Machine.execXorAlu64K d imm s
  | .xorAlu64X d src => Sys2Proof.Machine.execXorAlu64X d src s
  | .movAluK d imm => Sys2Proof.Machine.execMovAluK d imm s
  | .movAluX d src => Sys2Proof.Machine.execMovAluX d src s
  | .movAlu64K d imm => Sys2Proof.Machine.execMovAlu64K d imm s
  | .movAlu64X d src => Sys2Proof.Machine.execMovAlu64X d src s
  | .movsx8AluX d src => Sys2Proof.Machine.execMovsx8AluX d src s
  | .movsx16AluX d src => Sys2Proof.Machine.execMovsx16AluX d src s
  | .movsx8Alu64X d src => Sys2Proof.Machine.execMovsx8Alu64X d src s
  | .movsx16Alu64X d src => Sys2Proof.Machine.execMovsx16Alu64X d src s
  | .movsx32Alu64X d src => Sys2Proof.Machine.execMovsx32Alu64X d src s
  | .arshAluK d imm => Sys2Proof.Machine.execArshAluK d imm s
  | .arshAluX d src => Sys2Proof.Machine.execArshAluX d src s
  | .arshAlu64K d imm => Sys2Proof.Machine.execArshAlu64K d imm s
  | .arshAlu64X d src => Sys2Proof.Machine.execArshAlu64X d src s
  | .endToLe16 d => Sys2Proof.Machine.execEndToLe16 d s
  | .endToLe32 d => Sys2Proof.Machine.execEndToLe32 d s
  | .endToLe64 d => Sys2Proof.Machine.execEndToLe64 d s
  | .endToBe16 d => Sys2Proof.Machine.execEndToBe16 d s
  | .endToBe32 d => Sys2Proof.Machine.execEndToBe32 d s
  | .endToBe64 d => Sys2Proof.Machine.execEndToBe64 d s
  | .bswap16 d => Sys2Proof.Machine.execBswap16 d s
  | .bswap32 d => Sys2Proof.Machine.execBswap32 d s
  | .bswap64 d => Sys2Proof.Machine.execBswap64 d s
  | .jaJmp off => Sys2Proof.Machine.execJaJmp off s
  | .jaJmp32 imm => Sys2Proof.Machine.execJaJmp32 imm s
  | .jeqJmpK d off imm => Sys2Proof.Machine.execJeqJmpK d off imm s
  | .jeqJmpX d src off => Sys2Proof.Machine.execJeqJmpX d src off s
  | .jeqJmp32K d off imm => Sys2Proof.Machine.execJeqJmp32K d off imm s
  | .jeqJmp32X d src off => Sys2Proof.Machine.execJeqJmp32X d src off s
  | .jgtJmpK d off imm => Sys2Proof.Machine.execJgtJmpK d off imm s
  | .jgtJmpX d src off => Sys2Proof.Machine.execJgtJmpX d src off s
  | .jgtJmp32K d off imm => Sys2Proof.Machine.execJgtJmp32K d off imm s
  | .jgtJmp32X d src off => Sys2Proof.Machine.execJgtJmp32X d src off s
  | .jgeJmpK d off imm => Sys2Proof.Machine.execJgeJmpK d off imm s
  | .jgeJmpX d src off => Sys2Proof.Machine.execJgeJmpX d src off s
  | .jgeJmp32K d off imm => Sys2Proof.Machine.execJgeJmp32K d off imm s
  | .jgeJmp32X d src off => Sys2Proof.Machine.execJgeJmp32X d src off s
  | .jsetJmpK d off imm => Sys2Proof.Machine.execJsetJmpK d off imm s
  | .jsetJmpX d src off => Sys2Proof.Machine.execJsetJmpX d src off s
  | .jsetJmp32K d off imm => Sys2Proof.Machine.execJsetJmp32K d off imm s
  | .jsetJmp32X d src off => Sys2Proof.Machine.execJsetJmp32X d src off s
  | .jneJmpK d off imm => Sys2Proof.Machine.execJneJmpK d off imm s
  | .jneJmpX d src off => Sys2Proof.Machine.execJneJmpX d src off s
  | .jneJmp32K d off imm => Sys2Proof.Machine.execJneJmp32K d off imm s
  | .jneJmp32X d src off => Sys2Proof.Machine.execJneJmp32X d src off s
  | .jsgtJmpK d off imm => Sys2Proof.Machine.execJsgtJmpK d off imm s
  | .jsgtJmpX d src off => Sys2Proof.Machine.execJsgtJmpX d src off s
  | .jsgtJmp32K d off imm => Sys2Proof.Machine.execJsgtJmp32K d off imm s
  | .jsgtJmp32X d src off => Sys2Proof.Machine.execJsgtJmp32X d src off s
  | .jsgeJmpK d off imm => Sys2Proof.Machine.execJsgeJmpK d off imm s
  | .jsgeJmpX d src off => Sys2Proof.Machine.execJsgeJmpX d src off s
  | .jsgeJmp32K d off imm => Sys2Proof.Machine.execJsgeJmp32K d off imm s
  | .jsgeJmp32X d src off => Sys2Proof.Machine.execJsgeJmp32X d src off s
  | .jltJmpK d off imm => Sys2Proof.Machine.execJltJmpK d off imm s
  | .jltJmpX d src off => Sys2Proof.Machine.execJltJmpX d src off s
  | .jltJmp32K d off imm => Sys2Proof.Machine.execJltJmp32K d off imm s
  | .jltJmp32X d src off => Sys2Proof.Machine.execJltJmp32X d src off s
  | .jleJmpK d off imm => Sys2Proof.Machine.execJleJmpK d off imm s
  | .jleJmpX d src off => Sys2Proof.Machine.execJleJmpX d src off s
  | .jleJmp32K d off imm => Sys2Proof.Machine.execJleJmp32K d off imm s
  | .jleJmp32X d src off => Sys2Proof.Machine.execJleJmp32X d src off s
  | .jsltJmpK d off imm => Sys2Proof.Machine.execJsltJmpK d off imm s
  | .jsltJmpX d src off => Sys2Proof.Machine.execJsltJmpX d src off s
  | .jsltJmp32K d off imm => Sys2Proof.Machine.execJsltJmp32K d off imm s
  | .jsltJmp32X d src off => Sys2Proof.Machine.execJsltJmp32X d src off s
  | .jsleJmpK d off imm => Sys2Proof.Machine.execJsleJmpK d off imm s
  | .jsleJmpX d src off => Sys2Proof.Machine.execJsleJmpX d src off s
  | .jsleJmp32K d off imm => Sys2Proof.Machine.execJsleJmp32K d off imm s
  | .jsleJmp32X d src off => Sys2Proof.Machine.execJsleJmp32X d src off s
  | .callHelper imm => Sys2Proof.Machine.execCallHelper imm s
  | .callLocal imm => Sys2Proof.Machine.execCallLocal imm s
  | .callHelperBtf imm => Sys2Proof.Machine.execCallHelperBtf imm s
  | .exit => Sys2Proof.Machine.execExit s
  | .ldxMemB d src off => Sys2Proof.Machine.execLdxMemB d src off s
  | .ldxMemH d src off => Sys2Proof.Machine.execLdxMemH d src off s
  | .ldxMemW d src off => Sys2Proof.Machine.execLdxMemW d src off s
  | .ldxMemDw d src off => Sys2Proof.Machine.execLdxMemDw d src off s
  | .stMemB d off imm => Sys2Proof.Machine.execStMemB d off imm s
  | .stMemH d off imm => Sys2Proof.Machine.execStMemH d off imm s
  | .stMemW d off imm => Sys2Proof.Machine.execStMemW d off imm s
  | .stMemDw d off imm => Sys2Proof.Machine.execStMemDw d off imm s
  | .stxMemB d src off => Sys2Proof.Machine.execStxMemB d src off s
  | .stxMemH d src off => Sys2Proof.Machine.execStxMemH d src off s
  | .stxMemW d src off => Sys2Proof.Machine.execStxMemW d src off s
  | .stxMemDw d src off => Sys2Proof.Machine.execStxMemDw d src off s
  | .ldxMemsxB d src off => Sys2Proof.Machine.execLdxMemsxB d src off s
  | .ldxMemsxH d src off => Sys2Proof.Machine.execLdxMemsxH d src off s
  | .ldxMemsxW d src off => Sys2Proof.Machine.execLdxMemsxW d src off s
  | .atomicAddW d src off => Sys2Proof.Machine.execAtomicAddW d src off s
  | .atomicFetchAddW d src off => Sys2Proof.Machine.execAtomicFetchAddW d src off s
  | .atomicOrW d src off => Sys2Proof.Machine.execAtomicOrW d src off s
  | .atomicFetchOrW d src off => Sys2Proof.Machine.execAtomicFetchOrW d src off s
  | .atomicAndW d src off => Sys2Proof.Machine.execAtomicAndW d src off s
  | .atomicFetchAndW d src off => Sys2Proof.Machine.execAtomicFetchAndW d src off s
  | .atomicXorW d src off => Sys2Proof.Machine.execAtomicXorW d src off s
  | .atomicFetchXorW d src off => Sys2Proof.Machine.execAtomicFetchXorW d src off s
  | .atomicXchgW d src off => Sys2Proof.Machine.execAtomicXchgW d src off s
  | .atomicCmpxchgW d src off => Sys2Proof.Machine.execAtomicCmpxchgW d src off s
  | .atomicAddDw d src off => Sys2Proof.Machine.execAtomicAddDw d src off s
  | .atomicFetchAddDw d src off => Sys2Proof.Machine.execAtomicFetchAddDw d src off s
  | .atomicOrDw d src off => Sys2Proof.Machine.execAtomicOrDw d src off s
  | .atomicFetchOrDw d src off => Sys2Proof.Machine.execAtomicFetchOrDw d src off s
  | .atomicAndDw d src off => Sys2Proof.Machine.execAtomicAndDw d src off s
  | .atomicFetchAndDw d src off => Sys2Proof.Machine.execAtomicFetchAndDw d src off s
  | .atomicXorDw d src off => Sys2Proof.Machine.execAtomicXorDw d src off s
  | .atomicFetchXorDw d src off => Sys2Proof.Machine.execAtomicFetchXorDw d src off s
  | .atomicXchgDw d src off => Sys2Proof.Machine.execAtomicXchgDw d src off s
  | .atomicCmpxchgDw d src off => Sys2Proof.Machine.execAtomicCmpxchgDw d src off s
  | .ldImm64 d imm nextImm => Sys2Proof.Machine.execLdImm64 d imm nextImm s
  | .ldMapByFd d imm => Sys2Proof.Machine.execLdMapByFd d imm s
  | .ldMapValByFd d imm nextImm => Sys2Proof.Machine.execLdMapValByFd d imm nextImm s
  | .ldVarAddr d imm => Sys2Proof.Machine.execLdVarAddr d imm s
  | .ldCodeAddr d imm => Sys2Proof.Machine.execLdCodeAddr d imm s
  | .ldMapByIdx d imm => Sys2Proof.Machine.execLdMapByIdx d imm s
  | .ldMapValByIdx d imm nextImm => Sys2Proof.Machine.execLdMapValByIdx d imm nextImm s
  | .wideSecondSlot imm => Sys2Proof.Machine.execWideSecondSlot imm s
  | .ldAbsW imm => Sys2Proof.Machine.execLdAbsW imm s
  | .ldAbsH imm => Sys2Proof.Machine.execLdAbsH imm s
  | .ldAbsB imm => Sys2Proof.Machine.execLdAbsB imm s
  | .ldIndW src imm => Sys2Proof.Machine.execLdIndW src imm s
  | .ldIndH src imm => Sys2Proof.Machine.execLdIndH src imm s
  | .ldIndB src imm => Sys2Proof.Machine.execLdIndB src imm s

end Sys2Proof.Machine
end

