-- ==== Sys2Proof/Decode.lean ====
section
/-! DEFINITION. Decoding and encoding (30_encoding.md). A slot is split into its five fields in the host's byte
order (R62-R65), the fields select the instruction (R72-R83), and the encoder writes the slots of an instruction
back from the same tables. The decoder is total on any list of slots and rejects by name. -/

namespace Sys2Proof

/-- The five fields of a slot (R62). -/
structure Fields where
  opcode : BitVec 8
  dst : RegNum
  src : RegNum
  off : Offset
  imm : Imm
deriving DecidableEq, Repr, Inhabited

/-- Why a slot is no instruction; every reason is an IllegalInstruction of the machine (R81, R83). -/
inductive DecodeError where
  /-- There is no slot to decode. -/
  | noSlot
  /-- The opcode byte is not one of the 126 defined ones (R81). -/
  | unknownOpcode
  /-- A selector (offset, imm or src_reg) has an undefined value (R81, R205, R340). -/
  | badSelector
  /-- A field the instruction does not use is not zero (R69). -/
  | nonzeroField
  /-- A register field holds 11 .. 15 (R70). -/
  | badRegister
  /-- A wide instruction begins in the last slot (R71). -/
  | missingSecondSlot
  /-- The second slot of a wide instruction has a non-zero opcode, regs or offset (R71). -/
  | malformedSecondSlot
deriving DecidableEq, Repr

/-! ### Slots and fields -/

/-- The fields of a slot in the byte order of the host (R62, R64, R65). -/
def Slot.fields (e : Endian) (sl : Slot) : Fields :=
  match e with
  | .little =>
    { opcode := sl.b0
      dst := sl.b1.extractLsb' 0 4
      src := sl.b1.extractLsb' 4 4
      off := sl.b3 ++ sl.b2
      imm := sl.b7 ++ sl.b6 ++ sl.b5 ++ sl.b4 }
  | .big =>
    { opcode := sl.b0
      dst := sl.b1.extractLsb' 4 4
      src := sl.b1.extractLsb' 0 4
      off := sl.b2 ++ sl.b3
      imm := sl.b4 ++ sl.b5 ++ sl.b6 ++ sl.b7 }

/-- The slot that holds the given fields, in the byte order of the host (R62, R64, R65). -/
def Fields.slot (e : Endian) (f : Fields) : Slot :=
  match e with
  | .little =>
    { b0 := f.opcode
      b1 := f.src ++ f.dst
      b2 := f.off.extractLsb' 0 8
      b3 := f.off.extractLsb' 8 8
      b4 := f.imm.extractLsb' 0 8
      b5 := f.imm.extractLsb' 8 8
      b6 := f.imm.extractLsb' 16 8
      b7 := f.imm.extractLsb' 24 8 }
  | .big =>
    { b0 := f.opcode
      b1 := f.dst ++ f.src
      b2 := f.off.extractLsb' 8 8
      b3 := f.off.extractLsb' 0 8
      b4 := f.imm.extractLsb' 24 8
      b5 := f.imm.extractLsb' 16 8
      b6 := f.imm.extractLsb' 8 8
      b7 := f.imm.extractLsb' 0 8 }

/-- The canonical word W of a slot's fields, the same on both hosts (R66). -/
def Fields.word (f : Fields) : BitVec 64 := f.imm ++ f.off ++ f.src ++ f.dst ++ f.opcode

/-- The fields a canonical word stands for (R66). -/
def Fields.ofWord (w : BitVec 64) : Fields :=
  { opcode := w.extractLsb' 0 8
    dst := w.extractLsb' 8 4
    src := w.extractLsb' 12 4
    off := w.extractLsb' 16 16
    imm := w.extractLsb' 32 32 }

/-- The slots of a byte image, eight bytes each in address order (R60); a trailing part of a slot is no slot. -/
def slotsOfBytes : List Byte → List Slot
  | b0 :: b1 :: b2 :: b3 :: b4 :: b5 :: b6 :: b7 :: rest => ⟨b0, b1, b2, b3, b4, b5, b6, b7⟩ :: slotsOfBytes rest
  | _ => []

/-! ### Decoding the first slot -/

/-- Accept instruction `i` when its unused fields are zero (R69) and its register fields name registers (R70). -/
def accept (zeroFields : Bool) (i : Instr) : Except DecodeError Instr :=
  if zeroFields then (if i.wf then .ok i else .error .badRegister) else .error .nonzeroField

/-- A K form of an arithmetic instruction whose offset selects nothing: src_reg and offset are zero (R69, R74). -/
def formK (c : RegNum → Imm → Instr) (f : Fields) : Except DecodeError Instr :=
  accept (f.src == 0 && f.off == 0) (c f.dst f.imm)

/-- An X form of an arithmetic instruction whose offset selects nothing: offset and imm are zero (R69, R74). -/
def formX (c : RegNum → RegNum → Instr) (f : Fields) : Except DecodeError Instr :=
  accept (f.off == 0 && f.imm == 0) (c f.dst f.src)

/-- The K forms of codes 0x3 and 0x9: offset 0 is the unsigned flavour, 1 the signed one (40_arithmetic.md R106, R109). -/
def formDivK (unsigned signed : RegNum → Imm → Instr) (f : Fields) : Except DecodeError Instr :=
  if f.off = 0 then accept (f.src == 0) (unsigned f.dst f.imm)
  else if f.off = 1 then accept (f.src == 0) (signed f.dst f.imm)
  else .error .badSelector

/-- The X forms of codes 0x3 and 0x9, with the same selector (R106, R109). -/
def formDivX (unsigned signed : RegNum → RegNum → Instr) (f : Fields) : Except DecodeError Instr :=
  if f.off = 0 then accept (f.imm == 0) (unsigned f.dst f.src)
  else if f.off = 1 then accept (f.imm == 0) (signed f.dst f.src)
  else .error .badSelector

/-- Code 0x8, NEG: only dst_reg is used (R110). -/
def formNeg (c : RegNum → Instr) (f : Fields) : Except DecodeError Instr :=
  accept (f.src == 0 && f.off == 0 && f.imm == 0) (c f.dst)

/-- Code 0xb with X in class ALU: offset 0 is MOV, 8 and 16 are MOVSX (R109; 90_conflicts.md C6). -/
def formMov32 (f : Fields) : Except DecodeError Instr :=
  if f.off = 0 then accept (f.imm == 0) (.movAluX f.dst f.src)
  else if f.off = 8 then accept (f.imm == 0) (.movsx8AluX f.dst f.src)
  else if f.off = 16 then accept (f.imm == 0) (.movsx16AluX f.dst f.src)
  else .error .badSelector

/-- Code 0xb with X in class ALU64: offset 0 is MOV, 8, 16 and 32 are MOVSX (R109). -/
def formMov64 (f : Fields) : Except DecodeError Instr :=
  if f.off = 0 then accept (f.imm == 0) (.movAlu64X f.dst f.src)
  else if f.off = 8 then accept (f.imm == 0) (.movsx8Alu64X f.dst f.src)
  else if f.off = 16 then accept (f.imm == 0) (.movsx16Alu64X f.dst f.src)
  else if f.off = 32 then accept (f.imm == 0) (.movsx32Alu64X f.dst f.src)
  else .error .badSelector

/-- Code 0xd, END: imm selects the width; src_reg and offset are zero (42_byteswap.md R180, R182). -/
def formEnd (c16 c32 c64 : RegNum → Instr) (f : Fields) : Except DecodeError Instr :=
  if f.imm = 16 then accept (f.src == 0 && f.off == 0) (c16 f.dst)
  else if f.imm = 32 then accept (f.src == 0 && f.off == 0) (c32 f.dst)
  else if f.imm = 64 then accept (f.src == 0 && f.off == 0) (c64 f.dst)
  else .error .badSelector

/-- A K form of a conditional jump: src_reg is zero (44_jump_cond.md R220; 90_conflicts.md C8). -/
def formJumpK (c : RegNum → Offset → Imm → Instr) (f : Fields) : Except DecodeError Instr :=
  accept (f.src == 0) (c f.dst f.off f.imm)

/-- An X form of a conditional jump, a load or a register store: imm is zero (R69). -/
def formMemX (c : RegNum → RegNum → Offset → Instr) (f : Fields) : Except DecodeError Instr :=
  accept (f.imm == 0) (c f.dst f.src f.off)

/-- The CALL selector in src_reg (43_jump.md R205). -/
def formCall (f : Fields) : Except DecodeError Instr :=
  if f.src = 0 then accept (f.dst == 0 && f.off == 0) (.callHelper f.imm)
  else if f.src = 1 then accept (f.dst == 0 && f.off == 0) (.callLocal f.imm)
  else if f.src = 2 then accept (f.dst == 0 && f.off == 0) (.callHelperBtf f.imm)
  else .error .badSelector

/-- A packet load with mode ABS: dst_reg, src_reg and offset are zero (48_legacy_packet.md R360). -/
def formAbs (c : Imm → Instr) (f : Fields) : Except DecodeError Instr :=
  accept (f.dst == 0 && f.src == 0 && f.off == 0) (c f.imm)

/-- A packet load with mode IND: dst_reg and offset are zero (R360). -/
def formInd (c : RegNum → Imm → Instr) (f : Fields) : Except DecodeError Instr :=
  accept (f.dst == 0 && f.off == 0) (c f.src f.imm)

/-- An immediate store: src_reg is zero (45_load_store.md R270). -/
def formSt (c : RegNum → Offset → Imm → Instr) (f : Fields) : Except DecodeError Instr :=
  accept (f.src == 0) (c f.dst f.off f.imm)

/-- The atomics of one size: the whole imm is one of ten values (46_atomic.md R301). -/
def formAtomic (add fetchAdd or fetchOr and fetchAnd xor fetchXor xchg cmpxchg : RegNum → RegNum → Offset → Instr)
    (f : Fields) : Except DecodeError Instr :=
  if f.imm = 0x00 then accept true (add f.dst f.src f.off)
  else if f.imm = 0x01 then accept true (fetchAdd f.dst f.src f.off)
  else if f.imm = 0x40 then accept true (or f.dst f.src f.off)
  else if f.imm = 0x41 then accept true (fetchOr f.dst f.src f.off)
  else if f.imm = 0x50 then accept true (and f.dst f.src f.off)
  else if f.imm = 0x51 then accept true (fetchAnd f.dst f.src f.off)
  else if f.imm = 0xa0 then accept true (xor f.dst f.src f.off)
  else if f.imm = 0xa1 then accept true (fetchXor f.dst f.src f.off)
  else if f.imm = 0xe1 then accept true (xchg f.dst f.src f.off)
  else if f.imm = 0xf1 then accept true (cmpxchg f.dst f.src f.off)
  else .error .badSelector

/-- class = opcode[2:0] (R63, R72). -/
def Fields.cls (f : Fields) : Nat := (f.opcode.extractLsb' 0 3).toNat

/-- specific = opcode[7:3] (R63): code << 1 | s for arithmetic and jumps (R73), mode << 2 | sz for loads and
stores (R75). -/
def Fields.specific (f : Fields) : Nat := (f.opcode.extractLsb' 3 5).toNat

/-- Class LD (R80); opcode 0x18 is wide and decoded by `decodeWide`. -/
def decodeLd (f : Fields) : Except DecodeError Instr :=
  match f.specific with
  | 0x00 => accept (f.dst == 0 && f.src == 0 && f.off == 0) (.wideSecondSlot f.imm)
  | 0x04 => formAbs .ldAbsW f
  | 0x05 => formAbs .ldAbsH f
  | 0x06 => formAbs .ldAbsB f
  | 0x08 => formInd .ldIndW f
  | 0x09 => formInd .ldIndH f
  | 0x0a => formInd .ldIndB f
  | _ => .error .unknownOpcode

/-- Class LDX (R80; 90_conflicts.md C4 for MEMSX). -/
def decodeLdx (f : Fields) : Except DecodeError Instr :=
  match f.specific with
  | 0x0c => formMemX .ldxMemW f
  | 0x0d => formMemX .ldxMemH f
  | 0x0e => formMemX .ldxMemB f
  | 0x0f => formMemX .ldxMemDw f
  | 0x10 => formMemX .ldxMemsxW f
  | 0x11 => formMemX .ldxMemsxH f
  | 0x12 => formMemX .ldxMemsxB f
  | _ => .error .unknownOpcode

/-- Class ST (R80). -/
def decodeSt (f : Fields) : Except DecodeError Instr :=
  match f.specific with
  | 0x0c => formSt .stMemW f
  | 0x0d => formSt .stMemH f
  | 0x0e => formSt .stMemB f
  | 0x0f => formSt .stMemDw f
  | _ => .error .unknownOpcode

/-- Class STX (R80). -/
def decodeStx (f : Fields) : Except DecodeError Instr :=
  match f.specific with
  | 0x0c => formMemX .stxMemW f
  | 0x0d => formMemX .stxMemH f
  | 0x0e => formMemX .stxMemB f
  | 0x0f => formMemX .stxMemDw f
  | 0x18 => formAtomic .atomicAddW .atomicFetchAddW .atomicOrW .atomicFetchOrW .atomicAndW
      .atomicFetchAndW .atomicXorW .atomicFetchXorW .atomicXchgW .atomicCmpxchgW f
  | 0x1b => formAtomic .atomicAddDw .atomicFetchAddDw .atomicOrDw .atomicFetchOrDw .atomicAndDw
      .atomicFetchAndDw .atomicXorDw .atomicFetchXorDw .atomicXchgDw .atomicCmpxchgDw f
  | _ => .error .unknownOpcode

/-- Class ALU (R78): specific = code << 1 | s. -/
def decodeAlu (f : Fields) : Except DecodeError Instr :=
  match f.specific with
  | 0x00 => formK .addAluK f
  | 0x01 => formX .addAluX f
  | 0x02 => formK .subAluK f
  | 0x03 => formX .subAluX f
  | 0x04 => formK .mulAluK f
  | 0x05 => formX .mulAluX f
  | 0x06 => formDivK .divAluK .sdivAluK f
  | 0x07 => formDivX .divAluX .sdivAluX f
  | 0x08 => formK .orAluK f
  | 0x09 => formX .orAluX f
  | 0x0a => formK .andAluK f
  | 0x0b => formX .andAluX f
  | 0x0c => formK .lshAluK f
  | 0x0d => formX .lshAluX f
  | 0x0e => formK .rshAluK f
  | 0x0f => formX .rshAluX f
  | 0x10 => formNeg .negAlu f
  | 0x12 => formDivK .modAluK .smodAluK f
  | 0x13 => formDivX .modAluX .smodAluX f
  | 0x14 => formK .xorAluK f
  | 0x15 => formX .xorAluX f
  | 0x16 => formK .movAluK f
  | 0x17 => formMov32 f
  | 0x18 => formK .arshAluK f
  | 0x19 => formX .arshAluX f
  | 0x1a => formEnd .endToLe16 .endToLe32 .endToLe64 f
  | 0x1b => formEnd .endToBe16 .endToBe32 .endToBe64 f
  | _ => .error .unknownOpcode

/-- Class JMP (R79): specific = code << 1 | s. -/
def decodeJmp (f : Fields) : Except DecodeError Instr :=
  match f.specific with
  | 0x00 => accept (f.dst == 0 && f.src == 0 && f.imm == 0) (.jaJmp f.off)
  | 0x02 => formJumpK .jeqJmpK f
  | 0x03 => formMemX .jeqJmpX f
  | 0x04 => formJumpK .jgtJmpK f
  | 0x05 => formMemX .jgtJmpX f
  | 0x06 => formJumpK .jgeJmpK f
  | 0x07 => formMemX .jgeJmpX f
  | 0x08 => formJumpK .jsetJmpK f
  | 0x09 => formMemX .jsetJmpX f
  | 0x0a => formJumpK .jneJmpK f
  | 0x0b => formMemX .jneJmpX f
  | 0x0c => formJumpK .jsgtJmpK f
  | 0x0d => formMemX .jsgtJmpX f
  | 0x0e => formJumpK .jsgeJmpK f
  | 0x0f => formMemX .jsgeJmpX f
  | 0x10 => formCall f
  | 0x12 => accept (f.dst == 0 && f.src == 0 && f.off == 0 && f.imm == 0) .exit
  | 0x14 => formJumpK .jltJmpK f
  | 0x15 => formMemX .jltJmpX f
  | 0x16 => formJumpK .jleJmpK f
  | 0x17 => formMemX .jleJmpX f
  | 0x18 => formJumpK .jsltJmpK f
  | 0x19 => formMemX .jsltJmpX f
  | 0x1a => formJumpK .jsleJmpK f
  | 0x1b => formMemX .jsleJmpX f
  | _ => .error .unknownOpcode

/-- Class JMP32 (R79): specific = code << 1 | s. -/
def decodeJmp32 (f : Fields) : Except DecodeError Instr :=
  match f.specific with
  | 0x00 => accept (f.dst == 0 && f.src == 0 && f.off == 0) (.jaJmp32 f.imm)
  | 0x02 => formJumpK .jeqJmp32K f
  | 0x03 => formMemX .jeqJmp32X f
  | 0x04 => formJumpK .jgtJmp32K f
  | 0x05 => formMemX .jgtJmp32X f
  | 0x06 => formJumpK .jgeJmp32K f
  | 0x07 => formMemX .jgeJmp32X f
  | 0x08 => formJumpK .jsetJmp32K f
  | 0x09 => formMemX .jsetJmp32X f
  | 0x0a => formJumpK .jneJmp32K f
  | 0x0b => formMemX .jneJmp32X f
  | 0x0c => formJumpK .jsgtJmp32K f
  | 0x0d => formMemX .jsgtJmp32X f
  | 0x0e => formJumpK .jsgeJmp32K f
  | 0x0f => formMemX .jsgeJmp32X f
  | 0x14 => formJumpK .jltJmp32K f
  | 0x15 => formMemX .jltJmp32X f
  | 0x16 => formJumpK .jleJmp32K f
  | 0x17 => formMemX .jleJmp32X f
  | 0x18 => formJumpK .jsltJmp32K f
  | 0x19 => formMemX .jsltJmp32X f
  | 0x1a => formJumpK .jsleJmp32K f
  | 0x1b => formMemX .jsleJmp32X f
  | _ => .error .unknownOpcode

/-- Class ALU64 (R78): specific = code << 1 | s. -/
def decodeAlu64 (f : Fields) : Except DecodeError Instr :=
  match f.specific with
  | 0x00 => formK .addAlu64K f
  | 0x01 => formX .addAlu64X f
  | 0x02 => formK .subAlu64K f
  | 0x03 => formX .subAlu64X f
  | 0x04 => formK .mulAlu64K f
  | 0x05 => formX .mulAlu64X f
  | 0x06 => formDivK .divAlu64K .sdivAlu64K f
  | 0x07 => formDivX .divAlu64X .sdivAlu64X f
  | 0x08 => formK .orAlu64K f
  | 0x09 => formX .orAlu64X f
  | 0x0a => formK .andAlu64K f
  | 0x0b => formX .andAlu64X f
  | 0x0c => formK .lshAlu64K f
  | 0x0d => formX .lshAlu64X f
  | 0x0e => formK .rshAlu64K f
  | 0x0f => formX .rshAlu64X f
  | 0x10 => formNeg .negAlu64 f
  | 0x12 => formDivK .modAlu64K .smodAlu64K f
  | 0x13 => formDivX .modAlu64X .smodAlu64X f
  | 0x14 => formK .xorAlu64K f
  | 0x15 => formX .xorAlu64X f
  | 0x16 => formK .movAlu64K f
  | 0x17 => formMov64 f
  | 0x18 => formK .arshAlu64K f
  | 0x19 => formX .arshAlu64X f
  | 0x1a => formEnd .bswap16 .bswap32 .bswap64 f
  | _ => .error .unknownOpcode

/-- A basic instruction, from the fields of its one slot (R72-R80). -/
def decodeBasic (f : Fields) : Except DecodeError Instr :=
  match f.cls with
  | 0 => decodeLd f
  | 1 => decodeLdx f
  | 2 => decodeSt f
  | 3 => decodeStx f
  | 4 => decodeAlu f
  | 5 => decodeJmp f
  | 6 => decodeJmp32 f
  | _ => decodeAlu64 f

/-- A wide instruction (opcode 0x18), from the fields of its two slots: src_reg selects the subtype
(47_imm64.md R340), next_imm must be zero where it is unused (R348), and the second slot's opcode, regs and
offset must be zero (30_encoding.md R71). -/
def decodeWide (f g : Fields) : Except DecodeError Instr :=
  if g.opcode ≠ 0 ∨ g.dst ≠ 0 ∨ g.src ≠ 0 ∨ g.off ≠ 0 then .error .malformedSecondSlot
  else if f.src = 0 then accept (f.off == 0) (.ldImm64 f.dst f.imm g.imm)
  else if f.src = 1 then accept (f.off == 0 && g.imm == 0) (.ldMapByFd f.dst f.imm)
  else if f.src = 2 then accept (f.off == 0) (.ldMapValByFd f.dst f.imm g.imm)
  else if f.src = 3 then accept (f.off == 0 && g.imm == 0) (.ldVarAddr f.dst f.imm)
  else if f.src = 4 then accept (f.off == 0 && g.imm == 0) (.ldCodeAddr f.dst f.imm)
  else if f.src = 5 then accept (f.off == 0 && g.imm == 0) (.ldMapByIdx f.dst f.imm)
  else if f.src = 6 then accept (f.off == 0) (.ldMapValByIdx f.dst f.imm g.imm)
  else .error .badSelector

/-- The opcode byte of the wide instructions (R61). -/
def wideOpcode : BitVec 8 := 0x18

/-- Decode the instruction that starts at the first of the given slots, in the host's byte order (R83). The
opcode byte alone decides whether a second slot belongs to it (R61). -/
def decode (e : Endian) : List Slot → Except DecodeError Instr
  | [] => .error .noSlot
  | first :: rest =>
    if (first.fields e).opcode = wideOpcode then
      match rest with
      | [] => .error .missingSecondSlot
      | second :: _ => decodeWide (first.fields e) (second.fields e)
    else decodeBasic (first.fields e)

/-! ### Encoding -/

/-- The fields of the first slot of an instruction, its row of the opcode table (R78-R80). -/
def Instr.fields : Instr → Fields
  | .addAluK d imm => ⟨0x04, d, 0, 0, imm⟩
  | .addAluX d s => ⟨0x0c, d, s, 0, 0⟩
  | .addAlu64K d imm => ⟨0x07, d, 0, 0, imm⟩
  | .addAlu64X d s => ⟨0x0f, d, s, 0, 0⟩
  | .subAluK d imm => ⟨0x14, d, 0, 0, imm⟩
  | .subAluX d s => ⟨0x1c, d, s, 0, 0⟩
  | .subAlu64K d imm => ⟨0x17, d, 0, 0, imm⟩
  | .subAlu64X d s => ⟨0x1f, d, s, 0, 0⟩
  | .mulAluK d imm => ⟨0x24, d, 0, 0, imm⟩
  | .mulAluX d s => ⟨0x2c, d, s, 0, 0⟩
  | .mulAlu64K d imm => ⟨0x27, d, 0, 0, imm⟩
  | .mulAlu64X d s => ⟨0x2f, d, s, 0, 0⟩
  | .divAluK d imm => ⟨0x34, d, 0, 0, imm⟩
  | .divAluX d s => ⟨0x3c, d, s, 0, 0⟩
  | .divAlu64K d imm => ⟨0x37, d, 0, 0, imm⟩
  | .divAlu64X d s => ⟨0x3f, d, s, 0, 0⟩
  | .sdivAluK d imm => ⟨0x34, d, 0, 1, imm⟩
  | .sdivAluX d s => ⟨0x3c, d, s, 1, 0⟩
  | .sdivAlu64K d imm => ⟨0x37, d, 0, 1, imm⟩
  | .sdivAlu64X d s => ⟨0x3f, d, s, 1, 0⟩
  | .orAluK d imm => ⟨0x44, d, 0, 0, imm⟩
  | .orAluX d s => ⟨0x4c, d, s, 0, 0⟩
  | .orAlu64K d imm => ⟨0x47, d, 0, 0, imm⟩
  | .orAlu64X d s => ⟨0x4f, d, s, 0, 0⟩
  | .andAluK d imm => ⟨0x54, d, 0, 0, imm⟩
  | .andAluX d s => ⟨0x5c, d, s, 0, 0⟩
  | .andAlu64K d imm => ⟨0x57, d, 0, 0, imm⟩
  | .andAlu64X d s => ⟨0x5f, d, s, 0, 0⟩
  | .lshAluK d imm => ⟨0x64, d, 0, 0, imm⟩
  | .lshAluX d s => ⟨0x6c, d, s, 0, 0⟩
  | .lshAlu64K d imm => ⟨0x67, d, 0, 0, imm⟩
  | .lshAlu64X d s => ⟨0x6f, d, s, 0, 0⟩
  | .rshAluK d imm => ⟨0x74, d, 0, 0, imm⟩
  | .rshAluX d s => ⟨0x7c, d, s, 0, 0⟩
  | .rshAlu64K d imm => ⟨0x77, d, 0, 0, imm⟩
  | .rshAlu64X d s => ⟨0x7f, d, s, 0, 0⟩
  | .negAlu d => ⟨0x84, d, 0, 0, 0⟩
  | .negAlu64 d => ⟨0x87, d, 0, 0, 0⟩
  | .modAluK d imm => ⟨0x94, d, 0, 0, imm⟩
  | .modAluX d s => ⟨0x9c, d, s, 0, 0⟩
  | .modAlu64K d imm => ⟨0x97, d, 0, 0, imm⟩
  | .modAlu64X d s => ⟨0x9f, d, s, 0, 0⟩
  | .smodAluK d imm => ⟨0x94, d, 0, 1, imm⟩
  | .smodAluX d s => ⟨0x9c, d, s, 1, 0⟩
  | .smodAlu64K d imm => ⟨0x97, d, 0, 1, imm⟩
  | .smodAlu64X d s => ⟨0x9f, d, s, 1, 0⟩
  | .xorAluK d imm => ⟨0xa4, d, 0, 0, imm⟩
  | .xorAluX d s => ⟨0xac, d, s, 0, 0⟩
  | .xorAlu64K d imm => ⟨0xa7, d, 0, 0, imm⟩
  | .xorAlu64X d s => ⟨0xaf, d, s, 0, 0⟩
  | .movAluK d imm => ⟨0xb4, d, 0, 0, imm⟩
  | .movAluX d s => ⟨0xbc, d, s, 0, 0⟩
  | .movAlu64K d imm => ⟨0xb7, d, 0, 0, imm⟩
  | .movAlu64X d s => ⟨0xbf, d, s, 0, 0⟩
  | .movsx8AluX d s => ⟨0xbc, d, s, 8, 0⟩
  | .movsx16AluX d s => ⟨0xbc, d, s, 16, 0⟩
  | .movsx8Alu64X d s => ⟨0xbf, d, s, 8, 0⟩
  | .movsx16Alu64X d s => ⟨0xbf, d, s, 16, 0⟩
  | .movsx32Alu64X d s => ⟨0xbf, d, s, 32, 0⟩
  | .arshAluK d imm => ⟨0xc4, d, 0, 0, imm⟩
  | .arshAluX d s => ⟨0xcc, d, s, 0, 0⟩
  | .arshAlu64K d imm => ⟨0xc7, d, 0, 0, imm⟩
  | .arshAlu64X d s => ⟨0xcf, d, s, 0, 0⟩
  | .endToLe16 d => ⟨0xd4, d, 0, 0, 0x10⟩
  | .endToLe32 d => ⟨0xd4, d, 0, 0, 0x20⟩
  | .endToLe64 d => ⟨0xd4, d, 0, 0, 0x40⟩
  | .endToBe16 d => ⟨0xdc, d, 0, 0, 0x10⟩
  | .endToBe32 d => ⟨0xdc, d, 0, 0, 0x20⟩
  | .endToBe64 d => ⟨0xdc, d, 0, 0, 0x40⟩
  | .bswap16 d => ⟨0xd7, d, 0, 0, 0x10⟩
  | .bswap32 d => ⟨0xd7, d, 0, 0, 0x20⟩
  | .bswap64 d => ⟨0xd7, d, 0, 0, 0x40⟩
  | .jaJmp off => ⟨0x05, 0, 0, off, 0⟩
  | .jaJmp32 imm => ⟨0x06, 0, 0, 0, imm⟩
  | .jeqJmpK d off imm => ⟨0x15, d, 0, off, imm⟩
  | .jeqJmpX d s off => ⟨0x1d, d, s, off, 0⟩
  | .jeqJmp32K d off imm => ⟨0x16, d, 0, off, imm⟩
  | .jeqJmp32X d s off => ⟨0x1e, d, s, off, 0⟩
  | .jgtJmpK d off imm => ⟨0x25, d, 0, off, imm⟩
  | .jgtJmpX d s off => ⟨0x2d, d, s, off, 0⟩
  | .jgtJmp32K d off imm => ⟨0x26, d, 0, off, imm⟩
  | .jgtJmp32X d s off => ⟨0x2e, d, s, off, 0⟩
  | .jgeJmpK d off imm => ⟨0x35, d, 0, off, imm⟩
  | .jgeJmpX d s off => ⟨0x3d, d, s, off, 0⟩
  | .jgeJmp32K d off imm => ⟨0x36, d, 0, off, imm⟩
  | .jgeJmp32X d s off => ⟨0x3e, d, s, off, 0⟩
  | .jsetJmpK d off imm => ⟨0x45, d, 0, off, imm⟩
  | .jsetJmpX d s off => ⟨0x4d, d, s, off, 0⟩
  | .jsetJmp32K d off imm => ⟨0x46, d, 0, off, imm⟩
  | .jsetJmp32X d s off => ⟨0x4e, d, s, off, 0⟩
  | .jneJmpK d off imm => ⟨0x55, d, 0, off, imm⟩
  | .jneJmpX d s off => ⟨0x5d, d, s, off, 0⟩
  | .jneJmp32K d off imm => ⟨0x56, d, 0, off, imm⟩
  | .jneJmp32X d s off => ⟨0x5e, d, s, off, 0⟩
  | .jsgtJmpK d off imm => ⟨0x65, d, 0, off, imm⟩
  | .jsgtJmpX d s off => ⟨0x6d, d, s, off, 0⟩
  | .jsgtJmp32K d off imm => ⟨0x66, d, 0, off, imm⟩
  | .jsgtJmp32X d s off => ⟨0x6e, d, s, off, 0⟩
  | .jsgeJmpK d off imm => ⟨0x75, d, 0, off, imm⟩
  | .jsgeJmpX d s off => ⟨0x7d, d, s, off, 0⟩
  | .jsgeJmp32K d off imm => ⟨0x76, d, 0, off, imm⟩
  | .jsgeJmp32X d s off => ⟨0x7e, d, s, off, 0⟩
  | .jltJmpK d off imm => ⟨0xa5, d, 0, off, imm⟩
  | .jltJmpX d s off => ⟨0xad, d, s, off, 0⟩
  | .jltJmp32K d off imm => ⟨0xa6, d, 0, off, imm⟩
  | .jltJmp32X d s off => ⟨0xae, d, s, off, 0⟩
  | .jleJmpK d off imm => ⟨0xb5, d, 0, off, imm⟩
  | .jleJmpX d s off => ⟨0xbd, d, s, off, 0⟩
  | .jleJmp32K d off imm => ⟨0xb6, d, 0, off, imm⟩
  | .jleJmp32X d s off => ⟨0xbe, d, s, off, 0⟩
  | .jsltJmpK d off imm => ⟨0xc5, d, 0, off, imm⟩
  | .jsltJmpX d s off => ⟨0xcd, d, s, off, 0⟩
  | .jsltJmp32K d off imm => ⟨0xc6, d, 0, off, imm⟩
  | .jsltJmp32X d s off => ⟨0xce, d, s, off, 0⟩
  | .jsleJmpK d off imm => ⟨0xd5, d, 0, off, imm⟩
  | .jsleJmpX d s off => ⟨0xdd, d, s, off, 0⟩
  | .jsleJmp32K d off imm => ⟨0xd6, d, 0, off, imm⟩
  | .jsleJmp32X d s off => ⟨0xde, d, s, off, 0⟩
  | .callHelper imm => ⟨0x85, 0, 0, 0, imm⟩
  | .callLocal imm => ⟨0x85, 0, 1, 0, imm⟩
  | .callHelperBtf imm => ⟨0x85, 0, 2, 0, imm⟩
  | .exit => ⟨0x95, 0, 0, 0, 0⟩
  | .ldxMemB d s off => ⟨0x71, d, s, off, 0⟩
  | .ldxMemH d s off => ⟨0x69, d, s, off, 0⟩
  | .ldxMemW d s off => ⟨0x61, d, s, off, 0⟩
  | .ldxMemDw d s off => ⟨0x79, d, s, off, 0⟩
  | .stMemB d off imm => ⟨0x72, d, 0, off, imm⟩
  | .stMemH d off imm => ⟨0x6a, d, 0, off, imm⟩
  | .stMemW d off imm => ⟨0x62, d, 0, off, imm⟩
  | .stMemDw d off imm => ⟨0x7a, d, 0, off, imm⟩
  | .stxMemB d s off => ⟨0x73, d, s, off, 0⟩
  | .stxMemH d s off => ⟨0x6b, d, s, off, 0⟩
  | .stxMemW d s off => ⟨0x63, d, s, off, 0⟩
  | .stxMemDw d s off => ⟨0x7b, d, s, off, 0⟩
  | .ldxMemsxB d s off => ⟨0x91, d, s, off, 0⟩
  | .ldxMemsxH d s off => ⟨0x89, d, s, off, 0⟩
  | .ldxMemsxW d s off => ⟨0x81, d, s, off, 0⟩
  | .atomicAddW d s off => ⟨0xc3, d, s, off, 0⟩
  | .atomicFetchAddW d s off => ⟨0xc3, d, s, off, 0x01⟩
  | .atomicOrW d s off => ⟨0xc3, d, s, off, 0x40⟩
  | .atomicFetchOrW d s off => ⟨0xc3, d, s, off, 0x41⟩
  | .atomicAndW d s off => ⟨0xc3, d, s, off, 0x50⟩
  | .atomicFetchAndW d s off => ⟨0xc3, d, s, off, 0x51⟩
  | .atomicXorW d s off => ⟨0xc3, d, s, off, 0xa0⟩
  | .atomicFetchXorW d s off => ⟨0xc3, d, s, off, 0xa1⟩
  | .atomicXchgW d s off => ⟨0xc3, d, s, off, 0xe1⟩
  | .atomicCmpxchgW d s off => ⟨0xc3, d, s, off, 0xf1⟩
  | .atomicAddDw d s off => ⟨0xdb, d, s, off, 0⟩
  | .atomicFetchAddDw d s off => ⟨0xdb, d, s, off, 0x01⟩
  | .atomicOrDw d s off => ⟨0xdb, d, s, off, 0x40⟩
  | .atomicFetchOrDw d s off => ⟨0xdb, d, s, off, 0x41⟩
  | .atomicAndDw d s off => ⟨0xdb, d, s, off, 0x50⟩
  | .atomicFetchAndDw d s off => ⟨0xdb, d, s, off, 0x51⟩
  | .atomicXorDw d s off => ⟨0xdb, d, s, off, 0xa0⟩
  | .atomicFetchXorDw d s off => ⟨0xdb, d, s, off, 0xa1⟩
  | .atomicXchgDw d s off => ⟨0xdb, d, s, off, 0xe1⟩
  | .atomicCmpxchgDw d s off => ⟨0xdb, d, s, off, 0xf1⟩
  | .ldImm64 d imm _ => ⟨0x18, d, 0, 0, imm⟩
  | .ldMapByFd d imm => ⟨0x18, d, 1, 0, imm⟩
  | .ldMapValByFd d imm _ => ⟨0x18, d, 2, 0, imm⟩
  | .ldVarAddr d imm => ⟨0x18, d, 3, 0, imm⟩
  | .ldCodeAddr d imm => ⟨0x18, d, 4, 0, imm⟩
  | .ldMapByIdx d imm => ⟨0x18, d, 5, 0, imm⟩
  | .ldMapValByIdx d imm _ => ⟨0x18, d, 6, 0, imm⟩
  | .wideSecondSlot imm => ⟨0x00, 0, 0, 0, imm⟩
  | .ldAbsW imm => ⟨0x20, 0, 0, 0, imm⟩
  | .ldAbsH imm => ⟨0x28, 0, 0, 0, imm⟩
  | .ldAbsB imm => ⟨0x30, 0, 0, 0, imm⟩
  | .ldIndW s imm => ⟨0x40, 0, s, 0, imm⟩
  | .ldIndH s imm => ⟨0x48, 0, s, 0, imm⟩
  | .ldIndB s imm => ⟨0x50, 0, s, 0, imm⟩

/-- The imm field of the second slot, for the wide instructions; `none` for a basic one (R71, R348). -/
def Instr.secondImm : Instr → Option Imm
  | .addAluK _ _ => none
  | .addAluX _ _ => none
  | .addAlu64K _ _ => none
  | .addAlu64X _ _ => none
  | .subAluK _ _ => none
  | .subAluX _ _ => none
  | .subAlu64K _ _ => none
  | .subAlu64X _ _ => none
  | .mulAluK _ _ => none
  | .mulAluX _ _ => none
  | .mulAlu64K _ _ => none
  | .mulAlu64X _ _ => none
  | .divAluK _ _ => none
  | .divAluX _ _ => none
  | .divAlu64K _ _ => none
  | .divAlu64X _ _ => none
  | .sdivAluK _ _ => none
  | .sdivAluX _ _ => none
  | .sdivAlu64K _ _ => none
  | .sdivAlu64X _ _ => none
  | .orAluK _ _ => none
  | .orAluX _ _ => none
  | .orAlu64K _ _ => none
  | .orAlu64X _ _ => none
  | .andAluK _ _ => none
  | .andAluX _ _ => none
  | .andAlu64K _ _ => none
  | .andAlu64X _ _ => none
  | .lshAluK _ _ => none
  | .lshAluX _ _ => none
  | .lshAlu64K _ _ => none
  | .lshAlu64X _ _ => none
  | .rshAluK _ _ => none
  | .rshAluX _ _ => none
  | .rshAlu64K _ _ => none
  | .rshAlu64X _ _ => none
  | .negAlu _ => none
  | .negAlu64 _ => none
  | .modAluK _ _ => none
  | .modAluX _ _ => none
  | .modAlu64K _ _ => none
  | .modAlu64X _ _ => none
  | .smodAluK _ _ => none
  | .smodAluX _ _ => none
  | .smodAlu64K _ _ => none
  | .smodAlu64X _ _ => none
  | .xorAluK _ _ => none
  | .xorAluX _ _ => none
  | .xorAlu64K _ _ => none
  | .xorAlu64X _ _ => none
  | .movAluK _ _ => none
  | .movAluX _ _ => none
  | .movAlu64K _ _ => none
  | .movAlu64X _ _ => none
  | .movsx8AluX _ _ => none
  | .movsx16AluX _ _ => none
  | .movsx8Alu64X _ _ => none
  | .movsx16Alu64X _ _ => none
  | .movsx32Alu64X _ _ => none
  | .arshAluK _ _ => none
  | .arshAluX _ _ => none
  | .arshAlu64K _ _ => none
  | .arshAlu64X _ _ => none
  | .endToLe16 _ => none
  | .endToLe32 _ => none
  | .endToLe64 _ => none
  | .endToBe16 _ => none
  | .endToBe32 _ => none
  | .endToBe64 _ => none
  | .bswap16 _ => none
  | .bswap32 _ => none
  | .bswap64 _ => none
  | .jaJmp _ => none
  | .jaJmp32 _ => none
  | .jeqJmpK _ _ _ => none
  | .jeqJmpX _ _ _ => none
  | .jeqJmp32K _ _ _ => none
  | .jeqJmp32X _ _ _ => none
  | .jgtJmpK _ _ _ => none
  | .jgtJmpX _ _ _ => none
  | .jgtJmp32K _ _ _ => none
  | .jgtJmp32X _ _ _ => none
  | .jgeJmpK _ _ _ => none
  | .jgeJmpX _ _ _ => none
  | .jgeJmp32K _ _ _ => none
  | .jgeJmp32X _ _ _ => none
  | .jsetJmpK _ _ _ => none
  | .jsetJmpX _ _ _ => none
  | .jsetJmp32K _ _ _ => none
  | .jsetJmp32X _ _ _ => none
  | .jneJmpK _ _ _ => none
  | .jneJmpX _ _ _ => none
  | .jneJmp32K _ _ _ => none
  | .jneJmp32X _ _ _ => none
  | .jsgtJmpK _ _ _ => none
  | .jsgtJmpX _ _ _ => none
  | .jsgtJmp32K _ _ _ => none
  | .jsgtJmp32X _ _ _ => none
  | .jsgeJmpK _ _ _ => none
  | .jsgeJmpX _ _ _ => none
  | .jsgeJmp32K _ _ _ => none
  | .jsgeJmp32X _ _ _ => none
  | .jltJmpK _ _ _ => none
  | .jltJmpX _ _ _ => none
  | .jltJmp32K _ _ _ => none
  | .jltJmp32X _ _ _ => none
  | .jleJmpK _ _ _ => none
  | .jleJmpX _ _ _ => none
  | .jleJmp32K _ _ _ => none
  | .jleJmp32X _ _ _ => none
  | .jsltJmpK _ _ _ => none
  | .jsltJmpX _ _ _ => none
  | .jsltJmp32K _ _ _ => none
  | .jsltJmp32X _ _ _ => none
  | .jsleJmpK _ _ _ => none
  | .jsleJmpX _ _ _ => none
  | .jsleJmp32K _ _ _ => none
  | .jsleJmp32X _ _ _ => none
  | .callHelper _ => none
  | .callLocal _ => none
  | .callHelperBtf _ => none
  | .exit => none
  | .ldxMemB _ _ _ => none
  | .ldxMemH _ _ _ => none
  | .ldxMemW _ _ _ => none
  | .ldxMemDw _ _ _ => none
  | .stMemB _ _ _ => none
  | .stMemH _ _ _ => none
  | .stMemW _ _ _ => none
  | .stMemDw _ _ _ => none
  | .stxMemB _ _ _ => none
  | .stxMemH _ _ _ => none
  | .stxMemW _ _ _ => none
  | .stxMemDw _ _ _ => none
  | .ldxMemsxB _ _ _ => none
  | .ldxMemsxH _ _ _ => none
  | .ldxMemsxW _ _ _ => none
  | .atomicAddW _ _ _ => none
  | .atomicFetchAddW _ _ _ => none
  | .atomicOrW _ _ _ => none
  | .atomicFetchOrW _ _ _ => none
  | .atomicAndW _ _ _ => none
  | .atomicFetchAndW _ _ _ => none
  | .atomicXorW _ _ _ => none
  | .atomicFetchXorW _ _ _ => none
  | .atomicXchgW _ _ _ => none
  | .atomicCmpxchgW _ _ _ => none
  | .atomicAddDw _ _ _ => none
  | .atomicFetchAddDw _ _ _ => none
  | .atomicOrDw _ _ _ => none
  | .atomicFetchOrDw _ _ _ => none
  | .atomicAndDw _ _ _ => none
  | .atomicFetchAndDw _ _ _ => none
  | .atomicXorDw _ _ _ => none
  | .atomicFetchXorDw _ _ _ => none
  | .atomicXchgDw _ _ _ => none
  | .atomicCmpxchgDw _ _ _ => none
  | .ldImm64 _ _ nextImm => some nextImm
  | .ldMapByFd _ _ => some 0
  | .ldMapValByFd _ _ nextImm => some nextImm
  | .ldVarAddr _ _ => some 0
  | .ldCodeAddr _ _ => some 0
  | .ldMapByIdx _ _ => some 0
  | .ldMapValByIdx _ _ nextImm => some nextImm
  | .wideSecondSlot _ => none
  | .ldAbsW _ => none
  | .ldAbsH _ => none
  | .ldAbsB _ => none
  | .ldIndW _ _ => none
  | .ldIndH _ _ => none
  | .ldIndB _ _ => none

/-- The second slot of a wide instruction with the given next_imm (R71). -/
def secondSlotFields (nextImm : Imm) : Fields := ⟨0, 0, 0, 0, nextImm⟩

/-- The slots of an instruction in the host's byte order (R60-R71). -/
def encode (e : Endian) (i : Instr) : List Slot :=
  match i.secondImm with
  | none => [i.fields.slot e]
  | some nextImm => [i.fields.slot e, (secondSlotFields nextImm).slot e]

/-- How many slots an instruction takes (R61). -/
def Instr.size (i : Instr) : Nat := if i.secondImm.isSome then 2 else 1

/-! ### The opcode table's numbering -/

/-- The first and second canonical words of an instruction whose bits are `w`, `nbits` of them given and the
rest zero. -/
def tableWords (nbits w : Nat) : BitVec 64 × BitVec 64 :=
  let v := w % 2 ^ nbits
  (BitVec.ofNat 64 v, BitVec.ofNat 64 (v / 2 ^ 64))

/-- The two slots that hold the given table word on a host of byte order `e` (R66; log 4). -/
def tableSlots (e : Endian) (nbits w : Nat) : List Slot :=
  [(Fields.ofWord (tableWords nbits w).1).slot e, (Fields.ofWord (tableWords nbits w).2).slot e]

/-- The instruction the decoder reads from a word of spec/opcode_table.json, laid out for a little-endian host. -/
def decodeTableWord (nbits w : Nat) : Option Instr :=
  match decode .little (tableSlots .little nbits w) with
  | .ok i => some i
  | .error _ => none

end Sys2Proof
end

