-- ==== Sys2Proof/Machine/Fetch.lean ====
section
/-! DEFINITION. Fetching and decoding the instruction at pc (10_state.md R35(1)-(3); 30_encoding.md R83). -/

namespace Sys2Proof.Machine

/-- The instruction at pc, or the fault of the fetch: BadJumpTarget(pc) when pc >= NSLOTS (10_state.md R35(1)),
IllegalInstruction(pc) when the slot is the second slot of a wide instruction (60_exceptions.md R402; log 16) or
decodes to no instruction (10_state.md R35(3)). -/
def State.fetch (s : State) : Except FaultInfo Instr :=
  if s.program.length ≤ s.pc then .error (.badJumpTarget s.pc)
  else if isSecondSlot s.program s.pc then .error (.illegalInstruction s.pc)
  else
    match decode s.cfg.endian (s.program.drop s.pc) with
    | .ok i => .ok i
    | .error _ => .error (.illegalInstruction s.pc)

/-- The program with the given slots in place from slot `at` on, lengthened with zero slots where it is too short. -/
def placeSlots (program : List Slot) (at_ : Nat) (slots : List Slot) : List Slot :=
  let padded := program ++ List.replicate (at_ + slots.length - program.length) default
  padded.take at_ ++ slots ++ padded.drop (at_ + slots.length)

end Sys2Proof.Machine
end

