-- ==== Sys2Proof/Machine/Step.lean ====
section
/-! DEFINITION. One step of the machine (10_state.md R35), and placing an instruction where the next step fetches. -/

namespace Sys2Proof.Machine

/-- One step. A Running state fetches, decodes and performs one instruction, or raises the fault of the fetch; a
state whose status is Exited or Faulted has no step (10_state.md R30; log 7). -/
def step (s : State) : Host.Outcome State Fault Refusal :=
  match s.status with
  | .exited => .fault .runExited
  | .faulted f => .fault (.runFaulted f)
  | .running =>
    match s.fetch with
    | .error f => .next (raise f s)
    | .ok i => exec i s

/-- The state with a word of spec/opcode_table.json in PROGRAM at pc, in the host's byte order, and status
Running, so that the next step runs it. It stands for the platform's loading of a program (log 4). -/
def State.withFetchWord (s : State) (nbits w : Nat) : State :=
  { s with program := placeSlots s.program s.pc (tableSlots s.cfg.endian nbits w), status := .running }

end Sys2Proof.Machine
end

