-- ==== Sys2Proof/Machine/Static.lean ====
section
/-! DEFINITION. The static facts of each instruction, written from the opcode table and the Operands lines of the
instruction rules, apart from the meanings: its conformance group, the registers it reads and writes, its jump
distance, the bytes it stores, its row of the table. Statements about all instructions are made over them. -/

namespace Sys2Proof

/-- The conformance group of an instruction (00_scope.md R6; opcode_table.json "group"). -/
def Instr.group : Instr → Group
  | .addAluK _ _ => .base32
  | .addAluX _ _ => .base32
  | .addAlu64K _ _ => .base64
  | .addAlu64X _ _ => .base64
  | .subAluK _ _ => .base32
  | .subAluX _ _ => .base32
  | .subAlu64K _ _ => .base64
  | .subAlu64X _ _ => .base64
  | .mulAluK _ _ => .divmul32
  | .mulAluX _ _ => .divmul32
  | .mulAlu64K _ _ => .divmul64
  | .mulAlu64X _ _ => .divmul64
  | .divAluK _ _ => .divmul32
  | .divAluX _ _ => .divmul32
  | .divAlu64K _ _ => .divmul64
  | .divAlu64X _ _ => .divmul64
  | .sdivAluK _ _ => .divmul32
  | .sdivAluX _ _ => .divmul32
  | .sdivAlu64K _ _ => .divmul64
  | .sdivAlu64X _ _ => .divmul64
  | .orAluK _ _ => .base32
  | .orAluX _ _ => .base32
  | .orAlu64K _ _ => .base64
  | .orAlu64X _ _ => .base64
  | .andAluK _ _ => .base32
  | .andAluX _ _ => .base32
  | .andAlu64K _ _ => .base64
  | .andAlu64X _ _ => .base64
  | .lshAluK _ _ => .base32
  | .lshAluX _ _ => .base32
  | .lshAlu64K _ _ => .base64
  | .lshAlu64X _ _ => .base64
  | .rshAluK _ _ => .base32
  | .rshAluX _ _ => .base32
  | .rshAlu64K _ _ => .base64
  | .rshAlu64X _ _ => .base64
  | .negAlu _ => .base32
  | .negAlu64 _ => .base64
  | .modAluK _ _ => .divmul32
  | .modAluX _ _ => .divmul32
  | .modAlu64K _ _ => .divmul64
  | .modAlu64X _ _ => .divmul64
  | .smodAluK _ _ => .divmul32
  | .smodAluX _ _ => .divmul32
  | .smodAlu64K _ _ => .divmul64
  | .smodAlu64X _ _ => .divmul64
  | .xorAluK _ _ => .base32
  | .xorAluX _ _ => .base32
  | .xorAlu64K _ _ => .base64
  | .xorAlu64X _ _ => .base64
  | .movAluK _ _ => .base32
  | .movAluX _ _ => .base32
  | .movAlu64K _ _ => .base64
  | .movAlu64X _ _ => .base64
  | .movsx8AluX _ _ => .base32
  | .movsx16AluX _ _ => .base32
  | .movsx8Alu64X _ _ => .base64
  | .movsx16Alu64X _ _ => .base64
  | .movsx32Alu64X _ _ => .base64
  | .arshAluK _ _ => .base32
  | .arshAluX _ _ => .base32
  | .arshAlu64K _ _ => .base64
  | .arshAlu64X _ _ => .base64
  | .endToLe16 _ => .base32
  | .endToLe32 _ => .base32
  | .endToLe64 _ => .base64
  | .endToBe16 _ => .base32
  | .endToBe32 _ => .base32
  | .endToBe64 _ => .base64
  | .bswap16 _ => .base32
  | .bswap32 _ => .base32
  | .bswap64 _ => .base64
  | .jaJmp _ => .base32
  | .jaJmp32 _ => .base32
  | .jeqJmpK _ _ _ => .base64
  | .jeqJmpX _ _ _ => .base64
  | .jeqJmp32K _ _ _ => .base32
  | .jeqJmp32X _ _ _ => .base32
  | .jgtJmpK _ _ _ => .base64
  | .jgtJmpX _ _ _ => .base64
  | .jgtJmp32K _ _ _ => .base32
  | .jgtJmp32X _ _ _ => .base32
  | .jgeJmpK _ _ _ => .base64
  | .jgeJmpX _ _ _ => .base64
  | .jgeJmp32K _ _ _ => .base32
  | .jgeJmp32X _ _ _ => .base32
  | .jsetJmpK _ _ _ => .base64
  | .jsetJmpX _ _ _ => .base64
  | .jsetJmp32K _ _ _ => .base32
  | .jsetJmp32X _ _ _ => .base32
  | .jneJmpK _ _ _ => .base64
  | .jneJmpX _ _ _ => .base64
  | .jneJmp32K _ _ _ => .base32
  | .jneJmp32X _ _ _ => .base32
  | .jsgtJmpK _ _ _ => .base64
  | .jsgtJmpX _ _ _ => .base64
  | .jsgtJmp32K _ _ _ => .base32
  | .jsgtJmp32X _ _ _ => .base32
  | .jsgeJmpK _ _ _ => .base64
  | .jsgeJmpX _ _ _ => .base64
  | .jsgeJmp32K _ _ _ => .base32
  | .jsgeJmp32X _ _ _ => .base32
  | .jltJmpK _ _ _ => .base64
  | .jltJmpX _ _ _ => .base64
  | .jltJmp32K _ _ _ => .base32
  | .jltJmp32X _ _ _ => .base32
  | .jleJmpK _ _ _ => .base64
  | .jleJmpX _ _ _ => .base64
  | .jleJmp32K _ _ _ => .base32
  | .jleJmp32X _ _ _ => .base32
  | .jsltJmpK _ _ _ => .base64
  | .jsltJmpX _ _ _ => .base64
  | .jsltJmp32K _ _ _ => .base32
  | .jsltJmp32X _ _ _ => .base32
  | .jsleJmpK _ _ _ => .base64
  | .jsleJmpX _ _ _ => .base64
  | .jsleJmp32K _ _ _ => .base32
  | .jsleJmp32X _ _ _ => .base32
  | .callHelper _ => .base32
  | .callLocal _ => .base32
  | .callHelperBtf _ => .base32
  | .exit => .base32
  | .ldxMemB _ _ _ => .base32
  | .ldxMemH _ _ _ => .base32
  | .ldxMemW _ _ _ => .base32
  | .ldxMemDw _ _ _ => .base64
  | .stMemB _ _ _ => .base32
  | .stMemH _ _ _ => .base32
  | .stMemW _ _ _ => .base32
  | .stMemDw _ _ _ => .base64
  | .stxMemB _ _ _ => .base32
  | .stxMemH _ _ _ => .base32
  | .stxMemW _ _ _ => .base32
  | .stxMemDw _ _ _ => .base64
  | .ldxMemsxB _ _ _ => .base32
  | .ldxMemsxH _ _ _ => .base32
  | .ldxMemsxW _ _ _ => .base32
  | .atomicAddW _ _ _ => .atomic32
  | .atomicFetchAddW _ _ _ => .atomic32
  | .atomicOrW _ _ _ => .atomic32
  | .atomicFetchOrW _ _ _ => .atomic32
  | .atomicAndW _ _ _ => .atomic32
  | .atomicFetchAndW _ _ _ => .atomic32
  | .atomicXorW _ _ _ => .atomic32
  | .atomicFetchXorW _ _ _ => .atomic32
  | .atomicXchgW _ _ _ => .atomic32
  | .atomicCmpxchgW _ _ _ => .atomic32
  | .atomicAddDw _ _ _ => .atomic64
  | .atomicFetchAddDw _ _ _ => .atomic64
  | .atomicOrDw _ _ _ => .atomic64
  | .atomicFetchOrDw _ _ _ => .atomic64
  | .atomicAndDw _ _ _ => .atomic64
  | .atomicFetchAndDw _ _ _ => .atomic64
  | .atomicXorDw _ _ _ => .atomic64
  | .atomicFetchXorDw _ _ _ => .atomic64
  | .atomicXchgDw _ _ _ => .atomic64
  | .atomicCmpxchgDw _ _ _ => .atomic64
  | .ldImm64 _ _ _ => .base64
  | .ldMapByFd _ _ => .base64
  | .ldMapValByFd _ _ _ => .base64
  | .ldVarAddr _ _ => .base64
  | .ldCodeAddr _ _ => .base64
  | .ldMapByIdx _ _ => .base64
  | .ldMapValByIdx _ _ _ => .base64
  | .wideSecondSlot _ => .base64
  | .ldAbsW _ => .packet
  | .ldAbsH _ => .packet
  | .ldAbsB _ => .packet
  | .ldIndW _ _ => .packet
  | .ldIndH _ _ => .packet
  | .ldIndB _ _ => .packet

/-- The registers an instruction reads, in the order its pseudocode reads them (60_exceptions.md R407). What a helper
reads is its contract's and is not counted. -/
def Instr.reads : Instr → List RegNum
  | .addAluK d _ => [d]
  | .addAluX d s => [d, s]
  | .addAlu64K d _ => [d]
  | .addAlu64X d s => [d, s]
  | .subAluK d _ => [d]
  | .subAluX d s => [d, s]
  | .subAlu64K d _ => [d]
  | .subAlu64X d s => [d, s]
  | .mulAluK d _ => [d]
  | .mulAluX d s => [d, s]
  | .mulAlu64K d _ => [d]
  | .mulAlu64X d s => [d, s]
  | .divAluK d _ => [d]
  | .divAluX d s => [d, s]
  | .divAlu64K d _ => [d]
  | .divAlu64X d s => [d, s]
  | .sdivAluK d _ => [d]
  | .sdivAluX d s => [d, s]
  | .sdivAlu64K d _ => [d]
  | .sdivAlu64X d s => [d, s]
  | .orAluK d _ => [d]
  | .orAluX d s => [d, s]
  | .orAlu64K d _ => [d]
  | .orAlu64X d s => [d, s]
  | .andAluK d _ => [d]
  | .andAluX d s => [d, s]
  | .andAlu64K d _ => [d]
  | .andAlu64X d s => [d, s]
  | .lshAluK d _ => [d]
  | .lshAluX d s => [d, s]
  | .lshAlu64K d _ => [d]
  | .lshAlu64X d s => [d, s]
  | .rshAluK d _ => [d]
  | .rshAluX d s => [d, s]
  | .rshAlu64K d _ => [d]
  | .rshAlu64X d s => [d, s]
  | .negAlu d => [d]
  | .negAlu64 d => [d]
  | .modAluK d _ => [d]
  | .modAluX d s => [d, s]
  | .modAlu64K d _ => [d]
  | .modAlu64X d s => [d, s]
  | .smodAluK d _ => [d]
  | .smodAluX d s => [d, s]
  | .smodAlu64K d _ => [d]
  | .smodAlu64X d s => [d, s]
  | .xorAluK d _ => [d]
  | .xorAluX d s => [d, s]
  | .xorAlu64K d _ => [d]
  | .xorAlu64X d s => [d, s]
  | .movAluK _ _ => []
  | .movAluX _ s => [s]
  | .movAlu64K _ _ => []
  | .movAlu64X _ s => [s]
  | .movsx8AluX _ s => [s]
  | .movsx16AluX _ s => [s]
  | .movsx8Alu64X _ s => [s]
  | .movsx16Alu64X _ s => [s]
  | .movsx32Alu64X _ s => [s]
  | .arshAluK d _ => [d]
  | .arshAluX d s => [d, s]
  | .arshAlu64K d _ => [d]
  | .arshAlu64X d s => [d, s]
  | .endToLe16 d => [d]
  | .endToLe32 d => [d]
  | .endToLe64 d => [d]
  | .endToBe16 d => [d]
  | .endToBe32 d => [d]
  | .endToBe64 d => [d]
  | .bswap16 d => [d]
  | .bswap32 d => [d]
  | .bswap64 d => [d]
  | .jaJmp _ => []
  | .jaJmp32 _ => []
  | .jeqJmpK d _ _ => [d]
  | .jeqJmpX d s _ => [d, s]
  | .jeqJmp32K d _ _ => [d]
  | .jeqJmp32X d s _ => [d, s]
  | .jgtJmpK d _ _ => [d]
  | .jgtJmpX d s _ => [d, s]
  | .jgtJmp32K d _ _ => [d]
  | .jgtJmp32X d s _ => [d, s]
  | .jgeJmpK d _ _ => [d]
  | .jgeJmpX d s _ => [d, s]
  | .jgeJmp32K d _ _ => [d]
  | .jgeJmp32X d s _ => [d, s]
  | .jsetJmpK d _ _ => [d]
  | .jsetJmpX d s _ => [d, s]
  | .jsetJmp32K d _ _ => [d]
  | .jsetJmp32X d s _ => [d, s]
  | .jneJmpK d _ _ => [d]
  | .jneJmpX d s _ => [d, s]
  | .jneJmp32K d _ _ => [d]
  | .jneJmp32X d s _ => [d, s]
  | .jsgtJmpK d _ _ => [d]
  | .jsgtJmpX d s _ => [d, s]
  | .jsgtJmp32K d _ _ => [d]
  | .jsgtJmp32X d s _ => [d, s]
  | .jsgeJmpK d _ _ => [d]
  | .jsgeJmpX d s _ => [d, s]
  | .jsgeJmp32K d _ _ => [d]
  | .jsgeJmp32X d s _ => [d, s]
  | .jltJmpK d _ _ => [d]
  | .jltJmpX d s _ => [d, s]
  | .jltJmp32K d _ _ => [d]
  | .jltJmp32X d s _ => [d, s]
  | .jleJmpK d _ _ => [d]
  | .jleJmpX d s _ => [d, s]
  | .jleJmp32K d _ _ => [d]
  | .jleJmp32X d s _ => [d, s]
  | .jsltJmpK d _ _ => [d]
  | .jsltJmpX d s _ => [d, s]
  | .jsltJmp32K d _ _ => [d]
  | .jsltJmp32X d s _ => [d, s]
  | .jsleJmpK d _ _ => [d]
  | .jsleJmpX d s _ => [d, s]
  | .jsleJmp32K d _ _ => [d]
  | .jsleJmp32X d s _ => [d, s]
  | .callHelper _ => []
  | .callLocal _ => []
  | .callHelperBtf _ => []
  | .exit => []
  | .ldxMemB _ s _ => [s]
  | .ldxMemH _ s _ => [s]
  | .ldxMemW _ s _ => [s]
  | .ldxMemDw _ s _ => [s]
  | .stMemB d _ _ => [d]
  | .stMemH d _ _ => [d]
  | .stMemW d _ _ => [d]
  | .stMemDw d _ _ => [d]
  | .stxMemB d s _ => [d, s]
  | .stxMemH d s _ => [d, s]
  | .stxMemW d s _ => [d, s]
  | .stxMemDw d s _ => [d, s]
  | .ldxMemsxB _ s _ => [s]
  | .ldxMemsxH _ s _ => [s]
  | .ldxMemsxW _ s _ => [s]
  | .atomicAddW d s _ => [d, s]
  | .atomicFetchAddW d s _ => [d, s]
  | .atomicOrW d s _ => [d, s]
  | .atomicFetchOrW d s _ => [d, s]
  | .atomicAndW d s _ => [d, s]
  | .atomicFetchAndW d s _ => [d, s]
  | .atomicXorW d s _ => [d, s]
  | .atomicFetchXorW d s _ => [d, s]
  | .atomicXchgW d s _ => [d, s]
  | .atomicCmpxchgW d s _ => [d, s, 0]
  | .atomicAddDw d s _ => [d, s]
  | .atomicFetchAddDw d s _ => [d, s]
  | .atomicOrDw d s _ => [d, s]
  | .atomicFetchOrDw d s _ => [d, s]
  | .atomicAndDw d s _ => [d, s]
  | .atomicFetchAndDw d s _ => [d, s]
  | .atomicXorDw d s _ => [d, s]
  | .atomicFetchXorDw d s _ => [d, s]
  | .atomicXchgDw d s _ => [d, s]
  | .atomicCmpxchgDw d s _ => [d, s, 0]
  | .ldImm64 _ _ _ => []
  | .ldMapByFd _ _ => []
  | .ldMapValByFd _ _ _ => []
  | .ldVarAddr _ _ => []
  | .ldCodeAddr _ _ => []
  | .ldMapByIdx _ _ => []
  | .ldMapValByIdx _ _ _ => []
  | .wideSecondSlot _ => []
  | .ldAbsW _ => []
  | .ldAbsH _ => []
  | .ldAbsB _ => []
  | .ldIndW s _ => [s]
  | .ldIndH s _ => [s]
  | .ldIndB s _ => [s]

/-- The register field through which an instruction writes a register (30_encoding.md R70). CMPXCHG writes x[0], which
no field names. -/
def Instr.written : Instr → Option RegNum
  | .addAluK d _ => some d
  | .addAluX d _ => some d
  | .addAlu64K d _ => some d
  | .addAlu64X d _ => some d
  | .subAluK d _ => some d
  | .subAluX d _ => some d
  | .subAlu64K d _ => some d
  | .subAlu64X d _ => some d
  | .mulAluK d _ => some d
  | .mulAluX d _ => some d
  | .mulAlu64K d _ => some d
  | .mulAlu64X d _ => some d
  | .divAluK d _ => some d
  | .divAluX d _ => some d
  | .divAlu64K d _ => some d
  | .divAlu64X d _ => some d
  | .sdivAluK d _ => some d
  | .sdivAluX d _ => some d
  | .sdivAlu64K d _ => some d
  | .sdivAlu64X d _ => some d
  | .orAluK d _ => some d
  | .orAluX d _ => some d
  | .orAlu64K d _ => some d
  | .orAlu64X d _ => some d
  | .andAluK d _ => some d
  | .andAluX d _ => some d
  | .andAlu64K d _ => some d
  | .andAlu64X d _ => some d
  | .lshAluK d _ => some d
  | .lshAluX d _ => some d
  | .lshAlu64K d _ => some d
  | .lshAlu64X d _ => some d
  | .rshAluK d _ => some d
  | .rshAluX d _ => some d
  | .rshAlu64K d _ => some d
  | .rshAlu64X d _ => some d
  | .negAlu d => some d
  | .negAlu64 d => some d
  | .modAluK d _ => some d
  | .modAluX d _ => some d
  | .modAlu64K d _ => some d
  | .modAlu64X d _ => some d
  | .smodAluK d _ => some d
  | .smodAluX d _ => some d
  | .smodAlu64K d _ => some d
  | .smodAlu64X d _ => some d
  | .xorAluK d _ => some d
  | .xorAluX d _ => some d
  | .xorAlu64K d _ => some d
  | .xorAlu64X d _ => some d
  | .movAluK d _ => some d
  | .movAluX d _ => some d
  | .movAlu64K d _ => some d
  | .movAlu64X d _ => some d
  | .movsx8AluX d _ => some d
  | .movsx16AluX d _ => some d
  | .movsx8Alu64X d _ => some d
  | .movsx16Alu64X d _ => some d
  | .movsx32Alu64X d _ => some d
  | .arshAluK d _ => some d
  | .arshAluX d _ => some d
  | .arshAlu64K d _ => some d
  | .arshAlu64X d _ => some d
  | .endToLe16 d => some d
  | .endToLe32 d => some d
  | .endToLe64 d => some d
  | .endToBe16 d => some d
  | .endToBe32 d => some d
  | .endToBe64 d => some d
  | .bswap16 d => some d
  | .bswap32 d => some d
  | .bswap64 d => some d
  | .jaJmp _ => none
  | .jaJmp32 _ => none
  | .jeqJmpK _ _ _ => none
  | .jeqJmpX _ _ _ => none
  | .jeqJmp32K _ _ _ => none
  | .jeqJmp32X _ _ _ => none
  | .jgtJmpK _ _ _ => none
  | .jgtJmpX _ _ _ => none
  | .jgtJmp32K _ _ _ => none
  | .jgtJmp32X _ _ _ => none
  | .jgeJmpK _ _ _ => none
  | .jgeJmpX _ _ _ => none
  | .jgeJmp32K _ _ _ => none
  | .jgeJmp32X _ _ _ => none
  | .jsetJmpK _ _ _ => none
  | .jsetJmpX _ _ _ => none
  | .jsetJmp32K _ _ _ => none
  | .jsetJmp32X _ _ _ => none
  | .jneJmpK _ _ _ => none
  | .jneJmpX _ _ _ => none
  | .jneJmp32K _ _ _ => none
  | .jneJmp32X _ _ _ => none
  | .jsgtJmpK _ _ _ => none
  | .jsgtJmpX _ _ _ => none
  | .jsgtJmp32K _ _ _ => none
  | .jsgtJmp32X _ _ _ => none
  | .jsgeJmpK _ _ _ => none
  | .jsgeJmpX _ _ _ => none
  | .jsgeJmp32K _ _ _ => none
  | .jsgeJmp32X _ _ _ => none
  | .jltJmpK _ _ _ => none
  | .jltJmpX _ _ _ => none
  | .jltJmp32K _ _ _ => none
  | .jltJmp32X _ _ _ => none
  | .jleJmpK _ _ _ => none
  | .jleJmpX _ _ _ => none
  | .jleJmp32K _ _ _ => none
  | .jleJmp32X _ _ _ => none
  | .jsltJmpK _ _ _ => none
  | .jsltJmpX _ _ _ => none
  | .jsltJmp32K _ _ _ => none
  | .jsltJmp32X _ _ _ => none
  | .jsleJmpK _ _ _ => none
  | .jsleJmpX _ _ _ => none
  | .jsleJmp32K _ _ _ => none
  | .jsleJmp32X _ _ _ => none
  | .callHelper _ => none
  | .callLocal _ => none
  | .callHelperBtf _ => none
  | .exit => none
  | .ldxMemB d _ _ => some d
  | .ldxMemH d _ _ => some d
  | .ldxMemW d _ _ => some d
  | .ldxMemDw d _ _ => some d
  | .stMemB _ _ _ => none
  | .stMemH _ _ _ => none
  | .stMemW _ _ _ => none
  | .stMemDw _ _ _ => none
  | .stxMemB _ _ _ => none
  | .stxMemH _ _ _ => none
  | .stxMemW _ _ _ => none
  | .stxMemDw _ _ _ => none
  | .ldxMemsxB d _ _ => some d
  | .ldxMemsxH d _ _ => some d
  | .ldxMemsxW d _ _ => some d
  | .atomicAddW _ _ _ => none
  | .atomicFetchAddW _ s _ => some s
  | .atomicOrW _ _ _ => none
  | .atomicFetchOrW _ s _ => some s
  | .atomicAndW _ _ _ => none
  | .atomicFetchAndW _ s _ => some s
  | .atomicXorW _ _ _ => none
  | .atomicFetchXorW _ s _ => some s
  | .atomicXchgW _ s _ => some s
  | .atomicCmpxchgW _ _ _ => none
  | .atomicAddDw _ _ _ => none
  | .atomicFetchAddDw _ s _ => some s
  | .atomicOrDw _ _ _ => none
  | .atomicFetchOrDw _ s _ => some s
  | .atomicAndDw _ _ _ => none
  | .atomicFetchAndDw _ s _ => some s
  | .atomicXorDw _ _ _ => none
  | .atomicFetchXorDw _ s _ => some s
  | .atomicXchgDw _ s _ => some s
  | .atomicCmpxchgDw _ _ _ => none
  | .ldImm64 d _ _ => some d
  | .ldMapByFd d _ => some d
  | .ldMapValByFd d _ _ => some d
  | .ldVarAddr d _ => some d
  | .ldCodeAddr d _ => some d
  | .ldMapByIdx d _ => some d
  | .ldMapValByIdx d _ _ => some d
  | .wideSecondSlot _ => none
  | .ldAbsW _ => none
  | .ldAbsH _ => none
  | .ldAbsB _ => none
  | .ldIndW _ _ => none
  | .ldIndH _ _ => none
  | .ldIndB _ _ => none

/-- The register an instruction writes, if it writes one (70_reset_and_hazards.md R446); a helper and PacketAccess may
write any. -/
def Instr.writes : Instr → List RegNum
  | .addAluK d _ => [d]
  | .addAluX d _ => [d]
  | .addAlu64K d _ => [d]
  | .addAlu64X d _ => [d]
  | .subAluK d _ => [d]
  | .subAluX d _ => [d]
  | .subAlu64K d _ => [d]
  | .subAlu64X d _ => [d]
  | .mulAluK d _ => [d]
  | .mulAluX d _ => [d]
  | .mulAlu64K d _ => [d]
  | .mulAlu64X d _ => [d]
  | .divAluK d _ => [d]
  | .divAluX d _ => [d]
  | .divAlu64K d _ => [d]
  | .divAlu64X d _ => [d]
  | .sdivAluK d _ => [d]
  | .sdivAluX d _ => [d]
  | .sdivAlu64K d _ => [d]
  | .sdivAlu64X d _ => [d]
  | .orAluK d _ => [d]
  | .orAluX d _ => [d]
  | .orAlu64K d _ => [d]
  | .orAlu64X d _ => [d]
  | .andAluK d _ => [d]
  | .andAluX d _ => [d]
  | .andAlu64K d _ => [d]
  | .andAlu64X d _ => [d]
  | .lshAluK d _ => [d]
  | .lshAluX d _ => [d]
  | .lshAlu64K d _ => [d]
  | .lshAlu64X d _ => [d]
  | .rshAluK d _ => [d]
  | .rshAluX d _ => [d]
  | .rshAlu64K d _ => [d]
  | .rshAlu64X d _ => [d]
  | .negAlu d => [d]
  | .negAlu64 d => [d]
  | .modAluK d _ => [d]
  | .modAluX d _ => [d]
  | .modAlu64K d _ => [d]
  | .modAlu64X d _ => [d]
  | .smodAluK d _ => [d]
  | .smodAluX d _ => [d]
  | .smodAlu64K d _ => [d]
  | .smodAlu64X d _ => [d]
  | .xorAluK d _ => [d]
  | .xorAluX d _ => [d]
  | .xorAlu64K d _ => [d]
  | .xorAlu64X d _ => [d]
  | .movAluK d _ => [d]
  | .movAluX d _ => [d]
  | .movAlu64K d _ => [d]
  | .movAlu64X d _ => [d]
  | .movsx8AluX d _ => [d]
  | .movsx16AluX d _ => [d]
  | .movsx8Alu64X d _ => [d]
  | .movsx16Alu64X d _ => [d]
  | .movsx32Alu64X d _ => [d]
  | .arshAluK d _ => [d]
  | .arshAluX d _ => [d]
  | .arshAlu64K d _ => [d]
  | .arshAlu64X d _ => [d]
  | .endToLe16 d => [d]
  | .endToLe32 d => [d]
  | .endToLe64 d => [d]
  | .endToBe16 d => [d]
  | .endToBe32 d => [d]
  | .endToBe64 d => [d]
  | .bswap16 d => [d]
  | .bswap32 d => [d]
  | .bswap64 d => [d]
  | .jaJmp _ => []
  | .jaJmp32 _ => []
  | .jeqJmpK _ _ _ => []
  | .jeqJmpX _ _ _ => []
  | .jeqJmp32K _ _ _ => []
  | .jeqJmp32X _ _ _ => []
  | .jgtJmpK _ _ _ => []
  | .jgtJmpX _ _ _ => []
  | .jgtJmp32K _ _ _ => []
  | .jgtJmp32X _ _ _ => []
  | .jgeJmpK _ _ _ => []
  | .jgeJmpX _ _ _ => []
  | .jgeJmp32K _ _ _ => []
  | .jgeJmp32X _ _ _ => []
  | .jsetJmpK _ _ _ => []
  | .jsetJmpX _ _ _ => []
  | .jsetJmp32K _ _ _ => []
  | .jsetJmp32X _ _ _ => []
  | .jneJmpK _ _ _ => []
  | .jneJmpX _ _ _ => []
  | .jneJmp32K _ _ _ => []
  | .jneJmp32X _ _ _ => []
  | .jsgtJmpK _ _ _ => []
  | .jsgtJmpX _ _ _ => []
  | .jsgtJmp32K _ _ _ => []
  | .jsgtJmp32X _ _ _ => []
  | .jsgeJmpK _ _ _ => []
  | .jsgeJmpX _ _ _ => []
  | .jsgeJmp32K _ _ _ => []
  | .jsgeJmp32X _ _ _ => []
  | .jltJmpK _ _ _ => []
  | .jltJmpX _ _ _ => []
  | .jltJmp32K _ _ _ => []
  | .jltJmp32X _ _ _ => []
  | .jleJmpK _ _ _ => []
  | .jleJmpX _ _ _ => []
  | .jleJmp32K _ _ _ => []
  | .jleJmp32X _ _ _ => []
  | .jsltJmpK _ _ _ => []
  | .jsltJmpX _ _ _ => []
  | .jsltJmp32K _ _ _ => []
  | .jsltJmp32X _ _ _ => []
  | .jsleJmpK _ _ _ => []
  | .jsleJmpX _ _ _ => []
  | .jsleJmp32K _ _ _ => []
  | .jsleJmp32X _ _ _ => []
  | .callHelper _ => []
  | .callLocal _ => []
  | .callHelperBtf _ => []
  | .exit => []
  | .ldxMemB d _ _ => [d]
  | .ldxMemH d _ _ => [d]
  | .ldxMemW d _ _ => [d]
  | .ldxMemDw d _ _ => [d]
  | .stMemB _ _ _ => []
  | .stMemH _ _ _ => []
  | .stMemW _ _ _ => []
  | .stMemDw _ _ _ => []
  | .stxMemB _ _ _ => []
  | .stxMemH _ _ _ => []
  | .stxMemW _ _ _ => []
  | .stxMemDw _ _ _ => []
  | .ldxMemsxB d _ _ => [d]
  | .ldxMemsxH d _ _ => [d]
  | .ldxMemsxW d _ _ => [d]
  | .atomicAddW _ _ _ => []
  | .atomicFetchAddW _ s _ => [s]
  | .atomicOrW _ _ _ => []
  | .atomicFetchOrW _ s _ => [s]
  | .atomicAndW _ _ _ => []
  | .atomicFetchAndW _ s _ => [s]
  | .atomicXorW _ _ _ => []
  | .atomicFetchXorW _ s _ => [s]
  | .atomicXchgW _ s _ => [s]
  | .atomicCmpxchgW _ _ _ => [0]
  | .atomicAddDw _ _ _ => []
  | .atomicFetchAddDw _ s _ => [s]
  | .atomicOrDw _ _ _ => []
  | .atomicFetchOrDw _ s _ => [s]
  | .atomicAndDw _ _ _ => []
  | .atomicFetchAndDw _ s _ => [s]
  | .atomicXorDw _ _ _ => []
  | .atomicFetchXorDw _ s _ => [s]
  | .atomicXchgDw _ s _ => [s]
  | .atomicCmpxchgDw _ _ _ => [0]
  | .ldImm64 d _ _ => [d]
  | .ldMapByFd d _ => [d]
  | .ldMapValByFd d _ _ => [d]
  | .ldVarAddr d _ => [d]
  | .ldCodeAddr d _ => [d]
  | .ldMapByIdx d _ => [d]
  | .ldMapValByIdx d _ _ => [d]
  | .wideSecondSlot _ => []
  | .ldAbsW _ => []
  | .ldAbsH _ => []
  | .ldAbsB _ => []
  | .ldIndW _ _ => []
  | .ldIndH _ _ => []
  | .ldIndB _ _ => []

/-- The signed distance D, in slots, of an instruction that jumps or calls within the program (43_jump.md R201). -/
def Instr.jumpDistance : Instr → Option Int
  | .addAluK _ _ => none
  | .addAluX _ _ => none
  | .addAlu64K _ _ => none
  | .addAlu64X _ _ => none
  | .subAluK _ _ => none
  | .subAluX _ _ => none
  | .subAlu64K _ _ => none
  | .subAlu64X _ _ => none
  | .mulAluK _ _ => none
  | .mulAluX _ _ => none
  | .mulAlu64K _ _ => none
  | .mulAlu64X _ _ => none
  | .divAluK _ _ => none
  | .divAluX _ _ => none
  | .divAlu64K _ _ => none
  | .divAlu64X _ _ => none
  | .sdivAluK _ _ => none
  | .sdivAluX _ _ => none
  | .sdivAlu64K _ _ => none
  | .sdivAlu64X _ _ => none
  | .orAluK _ _ => none
  | .orAluX _ _ => none
  | .orAlu64K _ _ => none
  | .orAlu64X _ _ => none
  | .andAluK _ _ => none
  | .andAluX _ _ => none
  | .andAlu64K _ _ => none
  | .andAlu64X _ _ => none
  | .lshAluK _ _ => none
  | .lshAluX _ _ => none
  | .lshAlu64K _ _ => none
  | .lshAlu64X _ _ => none
  | .rshAluK _ _ => none
  | .rshAluX _ _ => none
  | .rshAlu64K _ _ => none
  | .rshAlu64X _ _ => none
  | .negAlu _ => none
  | .negAlu64 _ => none
  | .modAluK _ _ => none
  | .modAluX _ _ => none
  | .modAlu64K _ _ => none
  | .modAlu64X _ _ => none
  | .smodAluK _ _ => none
  | .smodAluX _ _ => none
  | .smodAlu64K _ _ => none
  | .smodAlu64X _ _ => none
  | .xorAluK _ _ => none
  | .xorAluX _ _ => none
  | .xorAlu64K _ _ => none
  | .xorAlu64X _ _ => none
  | .movAluK _ _ => none
  | .movAluX _ _ => none
  | .movAlu64K _ _ => none
  | .movAlu64X _ _ => none
  | .movsx8AluX _ _ => none
  | .movsx16AluX _ _ => none
  | .movsx8Alu64X _ _ => none
  | .movsx16Alu64X _ _ => none
  | .movsx32Alu64X _ _ => none
  | .arshAluK _ _ => none
  | .arshAluX _ _ => none
  | .arshAlu64K _ _ => none
  | .arshAlu64X _ _ => none
  | .endToLe16 _ => none
  | .endToLe32 _ => none
  | .endToLe64 _ => none
  | .endToBe16 _ => none
  | .endToBe32 _ => none
  | .endToBe64 _ => none
  | .bswap16 _ => none
  | .bswap32 _ => none
  | .bswap64 _ => none
  | .jaJmp off => some off.toInt
  | .jaJmp32 imm => some imm.toInt
  | .jeqJmpK _ off _ => some off.toInt
  | .jeqJmpX _ _ off => some off.toInt
  | .jeqJmp32K _ off _ => some off.toInt
  | .jeqJmp32X _ _ off => some off.toInt
  | .jgtJmpK _ off _ => some off.toInt
  | .jgtJmpX _ _ off => some off.toInt
  | .jgtJmp32K _ off _ => some off.toInt
  | .jgtJmp32X _ _ off => some off.toInt
  | .jgeJmpK _ off _ => some off.toInt
  | .jgeJmpX _ _ off => some off.toInt
  | .jgeJmp32K _ off _ => some off.toInt
  | .jgeJmp32X _ _ off => some off.toInt
  | .jsetJmpK _ off _ => some off.toInt
  | .jsetJmpX _ _ off => some off.toInt
  | .jsetJmp32K _ off _ => some off.toInt
  | .jsetJmp32X _ _ off => some off.toInt
  | .jneJmpK _ off _ => some off.toInt
  | .jneJmpX _ _ off => some off.toInt
  | .jneJmp32K _ off _ => some off.toInt
  | .jneJmp32X _ _ off => some off.toInt
  | .jsgtJmpK _ off _ => some off.toInt
  | .jsgtJmpX _ _ off => some off.toInt
  | .jsgtJmp32K _ off _ => some off.toInt
  | .jsgtJmp32X _ _ off => some off.toInt
  | .jsgeJmpK _ off _ => some off.toInt
  | .jsgeJmpX _ _ off => some off.toInt
  | .jsgeJmp32K _ off _ => some off.toInt
  | .jsgeJmp32X _ _ off => some off.toInt
  | .jltJmpK _ off _ => some off.toInt
  | .jltJmpX _ _ off => some off.toInt
  | .jltJmp32K _ off _ => some off.toInt
  | .jltJmp32X _ _ off => some off.toInt
  | .jleJmpK _ off _ => some off.toInt
  | .jleJmpX _ _ off => some off.toInt
  | .jleJmp32K _ off _ => some off.toInt
  | .jleJmp32X _ _ off => some off.toInt
  | .jsltJmpK _ off _ => some off.toInt
  | .jsltJmpX _ _ off => some off.toInt
  | .jsltJmp32K _ off _ => some off.toInt
  | .jsltJmp32X _ _ off => some off.toInt
  | .jsleJmpK _ off _ => some off.toInt
  | .jsleJmpX _ _ off => some off.toInt
  | .jsleJmp32K _ off _ => some off.toInt
  | .jsleJmp32X _ _ off => some off.toInt
  | .callHelper _ => none
  | .callLocal imm => some imm.toInt
  | .callHelperBtf _ => none
  | .exit => none
  | .ldxMemB _ _ _ => none
  | .ldxMemH _ _ _ => none
  | .ldxMemW _ _ _ => none
  | .ldxMemDw _ _ _ => none
  | .stMemB _ _ _ => none
  | .stMemH _ _ _ => none
  | .stMemW _ _ _ => none
  | .stMemDw _ _ _ => none
  | .stxMemB _ _ _ => none
  | .stxMemH _ _ _ => none
  | .stxMemW _ _ _ => none
  | .stxMemDw _ _ _ => none
  | .ldxMemsxB _ _ _ => none
  | .ldxMemsxH _ _ _ => none
  | .ldxMemsxW _ _ _ => none
  | .atomicAddW _ _ _ => none
  | .atomicFetchAddW _ _ _ => none
  | .atomicOrW _ _ _ => none
  | .atomicFetchOrW _ _ _ => none
  | .atomicAndW _ _ _ => none
  | .atomicFetchAndW _ _ _ => none
  | .atomicXorW _ _ _ => none
  | .atomicFetchXorW _ _ _ => none
  | .atomicXchgW _ _ _ => none
  | .atomicCmpxchgW _ _ _ => none
  | .atomicAddDw _ _ _ => none
  | .atomicFetchAddDw _ _ _ => none
  | .atomicOrDw _ _ _ => none
  | .atomicFetchOrDw _ _ _ => none
  | .atomicAndDw _ _ _ => none
  | .atomicFetchAndDw _ _ _ => none
  | .atomicXorDw _ _ _ => none
  | .atomicFetchXorDw _ _ _ => none
  | .atomicXchgDw _ _ _ => none
  | .atomicCmpxchgDw _ _ _ => none
  | .ldImm64 _ _ _ => none
  | .ldMapByFd _ _ => none
  | .ldMapValByFd _ _ _ => none
  | .ldVarAddr _ _ => none
  | .ldCodeAddr _ _ => none
  | .ldMapByIdx _ _ => none
  | .ldMapValByIdx _ _ _ => none
  | .wideSecondSlot _ => none
  | .ldAbsW _ => none
  | .ldAbsH _ => none
  | .ldAbsB _ => none
  | .ldIndW _ _ => none
  | .ldIndH _ _ => none
  | .ldIndB _ _ => none

/-- The instruction is a helper call (43_jump.md R206). -/
def Instr.callsHelper : Instr → Bool
  | .addAluK _ _ => false
  | .addAluX _ _ => false
  | .addAlu64K _ _ => false
  | .addAlu64X _ _ => false
  | .subAluK _ _ => false
  | .subAluX _ _ => false
  | .subAlu64K _ _ => false
  | .subAlu64X _ _ => false
  | .mulAluK _ _ => false
  | .mulAluX _ _ => false
  | .mulAlu64K _ _ => false
  | .mulAlu64X _ _ => false
  | .divAluK _ _ => false
  | .divAluX _ _ => false
  | .divAlu64K _ _ => false
  | .divAlu64X _ _ => false
  | .sdivAluK _ _ => false
  | .sdivAluX _ _ => false
  | .sdivAlu64K _ _ => false
  | .sdivAlu64X _ _ => false
  | .orAluK _ _ => false
  | .orAluX _ _ => false
  | .orAlu64K _ _ => false
  | .orAlu64X _ _ => false
  | .andAluK _ _ => false
  | .andAluX _ _ => false
  | .andAlu64K _ _ => false
  | .andAlu64X _ _ => false
  | .lshAluK _ _ => false
  | .lshAluX _ _ => false
  | .lshAlu64K _ _ => false
  | .lshAlu64X _ _ => false
  | .rshAluK _ _ => false
  | .rshAluX _ _ => false
  | .rshAlu64K _ _ => false
  | .rshAlu64X _ _ => false
  | .negAlu _ => false
  | .negAlu64 _ => false
  | .modAluK _ _ => false
  | .modAluX _ _ => false
  | .modAlu64K _ _ => false
  | .modAlu64X _ _ => false
  | .smodAluK _ _ => false
  | .smodAluX _ _ => false
  | .smodAlu64K _ _ => false
  | .smodAlu64X _ _ => false
  | .xorAluK _ _ => false
  | .xorAluX _ _ => false
  | .xorAlu64K _ _ => false
  | .xorAlu64X _ _ => false
  | .movAluK _ _ => false
  | .movAluX _ _ => false
  | .movAlu64K _ _ => false
  | .movAlu64X _ _ => false
  | .movsx8AluX _ _ => false
  | .movsx16AluX _ _ => false
  | .movsx8Alu64X _ _ => false
  | .movsx16Alu64X _ _ => false
  | .movsx32Alu64X _ _ => false
  | .arshAluK _ _ => false
  | .arshAluX _ _ => false
  | .arshAlu64K _ _ => false
  | .arshAlu64X _ _ => false
  | .endToLe16 _ => false
  | .endToLe32 _ => false
  | .endToLe64 _ => false
  | .endToBe16 _ => false
  | .endToBe32 _ => false
  | .endToBe64 _ => false
  | .bswap16 _ => false
  | .bswap32 _ => false
  | .bswap64 _ => false
  | .jaJmp _ => false
  | .jaJmp32 _ => false
  | .jeqJmpK _ _ _ => false
  | .jeqJmpX _ _ _ => false
  | .jeqJmp32K _ _ _ => false
  | .jeqJmp32X _ _ _ => false
  | .jgtJmpK _ _ _ => false
  | .jgtJmpX _ _ _ => false
  | .jgtJmp32K _ _ _ => false
  | .jgtJmp32X _ _ _ => false
  | .jgeJmpK _ _ _ => false
  | .jgeJmpX _ _ _ => false
  | .jgeJmp32K _ _ _ => false
  | .jgeJmp32X _ _ _ => false
  | .jsetJmpK _ _ _ => false
  | .jsetJmpX _ _ _ => false
  | .jsetJmp32K _ _ _ => false
  | .jsetJmp32X _ _ _ => false
  | .jneJmpK _ _ _ => false
  | .jneJmpX _ _ _ => false
  | .jneJmp32K _ _ _ => false
  | .jneJmp32X _ _ _ => false
  | .jsgtJmpK _ _ _ => false
  | .jsgtJmpX _ _ _ => false
  | .jsgtJmp32K _ _ _ => false
  | .jsgtJmp32X _ _ _ => false
  | .jsgeJmpK _ _ _ => false
  | .jsgeJmpX _ _ _ => false
  | .jsgeJmp32K _ _ _ => false
  | .jsgeJmp32X _ _ _ => false
  | .jltJmpK _ _ _ => false
  | .jltJmpX _ _ _ => false
  | .jltJmp32K _ _ _ => false
  | .jltJmp32X _ _ _ => false
  | .jleJmpK _ _ _ => false
  | .jleJmpX _ _ _ => false
  | .jleJmp32K _ _ _ => false
  | .jleJmp32X _ _ _ => false
  | .jsltJmpK _ _ _ => false
  | .jsltJmpX _ _ _ => false
  | .jsltJmp32K _ _ _ => false
  | .jsltJmp32X _ _ _ => false
  | .jsleJmpK _ _ _ => false
  | .jsleJmpX _ _ _ => false
  | .jsleJmp32K _ _ _ => false
  | .jsleJmp32X _ _ _ => false
  | .callHelper _ => true
  | .callLocal _ => false
  | .callHelperBtf _ => true
  | .exit => false
  | .ldxMemB _ _ _ => false
  | .ldxMemH _ _ _ => false
  | .ldxMemW _ _ _ => false
  | .ldxMemDw _ _ _ => false
  | .stMemB _ _ _ => false
  | .stMemH _ _ _ => false
  | .stMemW _ _ _ => false
  | .stMemDw _ _ _ => false
  | .stxMemB _ _ _ => false
  | .stxMemH _ _ _ => false
  | .stxMemW _ _ _ => false
  | .stxMemDw _ _ _ => false
  | .ldxMemsxB _ _ _ => false
  | .ldxMemsxH _ _ _ => false
  | .ldxMemsxW _ _ _ => false
  | .atomicAddW _ _ _ => false
  | .atomicFetchAddW _ _ _ => false
  | .atomicOrW _ _ _ => false
  | .atomicFetchOrW _ _ _ => false
  | .atomicAndW _ _ _ => false
  | .atomicFetchAndW _ _ _ => false
  | .atomicXorW _ _ _ => false
  | .atomicFetchXorW _ _ _ => false
  | .atomicXchgW _ _ _ => false
  | .atomicCmpxchgW _ _ _ => false
  | .atomicAddDw _ _ _ => false
  | .atomicFetchAddDw _ _ _ => false
  | .atomicOrDw _ _ _ => false
  | .atomicFetchOrDw _ _ _ => false
  | .atomicAndDw _ _ _ => false
  | .atomicFetchAndDw _ _ _ => false
  | .atomicXorDw _ _ _ => false
  | .atomicFetchXorDw _ _ _ => false
  | .atomicXchgDw _ _ _ => false
  | .atomicCmpxchgDw _ _ _ => false
  | .ldImm64 _ _ _ => false
  | .ldMapByFd _ _ => false
  | .ldMapValByFd _ _ _ => false
  | .ldVarAddr _ _ => false
  | .ldCodeAddr _ _ => false
  | .ldMapByIdx _ _ => false
  | .ldMapValByIdx _ _ _ => false
  | .wideSecondSlot _ => false
  | .ldAbsW _ => false
  | .ldAbsH _ => false
  | .ldAbsB _ => false
  | .ldIndW _ _ => false
  | .ldIndH _ _ => false
  | .ldIndB _ _ => false

/-- How many bytes an instruction may store to memory by itself, 0 for one that stores nothing (20_memory.md R44). -/
def Instr.storeSize : Instr → Nat
  | .addAluK _ _ => 0
  | .addAluX _ _ => 0
  | .addAlu64K _ _ => 0
  | .addAlu64X _ _ => 0
  | .subAluK _ _ => 0
  | .subAluX _ _ => 0
  | .subAlu64K _ _ => 0
  | .subAlu64X _ _ => 0
  | .mulAluK _ _ => 0
  | .mulAluX _ _ => 0
  | .mulAlu64K _ _ => 0
  | .mulAlu64X _ _ => 0
  | .divAluK _ _ => 0
  | .divAluX _ _ => 0
  | .divAlu64K _ _ => 0
  | .divAlu64X _ _ => 0
  | .sdivAluK _ _ => 0
  | .sdivAluX _ _ => 0
  | .sdivAlu64K _ _ => 0
  | .sdivAlu64X _ _ => 0
  | .orAluK _ _ => 0
  | .orAluX _ _ => 0
  | .orAlu64K _ _ => 0
  | .orAlu64X _ _ => 0
  | .andAluK _ _ => 0
  | .andAluX _ _ => 0
  | .andAlu64K _ _ => 0
  | .andAlu64X _ _ => 0
  | .lshAluK _ _ => 0
  | .lshAluX _ _ => 0
  | .lshAlu64K _ _ => 0
  | .lshAlu64X _ _ => 0
  | .rshAluK _ _ => 0
  | .rshAluX _ _ => 0
  | .rshAlu64K _ _ => 0
  | .rshAlu64X _ _ => 0
  | .negAlu _ => 0
  | .negAlu64 _ => 0
  | .modAluK _ _ => 0
  | .modAluX _ _ => 0
  | .modAlu64K _ _ => 0
  | .modAlu64X _ _ => 0
  | .smodAluK _ _ => 0
  | .smodAluX _ _ => 0
  | .smodAlu64K _ _ => 0
  | .smodAlu64X _ _ => 0
  | .xorAluK _ _ => 0
  | .xorAluX _ _ => 0
  | .xorAlu64K _ _ => 0
  | .xorAlu64X _ _ => 0
  | .movAluK _ _ => 0
  | .movAluX _ _ => 0
  | .movAlu64K _ _ => 0
  | .movAlu64X _ _ => 0
  | .movsx8AluX _ _ => 0
  | .movsx16AluX _ _ => 0
  | .movsx8Alu64X _ _ => 0
  | .movsx16Alu64X _ _ => 0
  | .movsx32Alu64X _ _ => 0
  | .arshAluK _ _ => 0
  | .arshAluX _ _ => 0
  | .arshAlu64K _ _ => 0
  | .arshAlu64X _ _ => 0
  | .endToLe16 _ => 0
  | .endToLe32 _ => 0
  | .endToLe64 _ => 0
  | .endToBe16 _ => 0
  | .endToBe32 _ => 0
  | .endToBe64 _ => 0
  | .bswap16 _ => 0
  | .bswap32 _ => 0
  | .bswap64 _ => 0
  | .jaJmp _ => 0
  | .jaJmp32 _ => 0
  | .jeqJmpK _ _ _ => 0
  | .jeqJmpX _ _ _ => 0
  | .jeqJmp32K _ _ _ => 0
  | .jeqJmp32X _ _ _ => 0
  | .jgtJmpK _ _ _ => 0
  | .jgtJmpX _ _ _ => 0
  | .jgtJmp32K _ _ _ => 0
  | .jgtJmp32X _ _ _ => 0
  | .jgeJmpK _ _ _ => 0
  | .jgeJmpX _ _ _ => 0
  | .jgeJmp32K _ _ _ => 0
  | .jgeJmp32X _ _ _ => 0
  | .jsetJmpK _ _ _ => 0
  | .jsetJmpX _ _ _ => 0
  | .jsetJmp32K _ _ _ => 0
  | .jsetJmp32X _ _ _ => 0
  | .jneJmpK _ _ _ => 0
  | .jneJmpX _ _ _ => 0
  | .jneJmp32K _ _ _ => 0
  | .jneJmp32X _ _ _ => 0
  | .jsgtJmpK _ _ _ => 0
  | .jsgtJmpX _ _ _ => 0
  | .jsgtJmp32K _ _ _ => 0
  | .jsgtJmp32X _ _ _ => 0
  | .jsgeJmpK _ _ _ => 0
  | .jsgeJmpX _ _ _ => 0
  | .jsgeJmp32K _ _ _ => 0
  | .jsgeJmp32X _ _ _ => 0
  | .jltJmpK _ _ _ => 0
  | .jltJmpX _ _ _ => 0
  | .jltJmp32K _ _ _ => 0
  | .jltJmp32X _ _ _ => 0
  | .jleJmpK _ _ _ => 0
  | .jleJmpX _ _ _ => 0
  | .jleJmp32K _ _ _ => 0
  | .jleJmp32X _ _ _ => 0
  | .jsltJmpK _ _ _ => 0
  | .jsltJmpX _ _ _ => 0
  | .jsltJmp32K _ _ _ => 0
  | .jsltJmp32X _ _ _ => 0
  | .jsleJmpK _ _ _ => 0
  | .jsleJmpX _ _ _ => 0
  | .jsleJmp32K _ _ _ => 0
  | .jsleJmp32X _ _ _ => 0
  | .callHelper _ => 0
  | .callLocal _ => 0
  | .callHelperBtf _ => 0
  | .exit => 0
  | .ldxMemB _ _ _ => 0
  | .ldxMemH _ _ _ => 0
  | .ldxMemW _ _ _ => 0
  | .ldxMemDw _ _ _ => 0
  | .stMemB _ _ _ => 1
  | .stMemH _ _ _ => 2
  | .stMemW _ _ _ => 4
  | .stMemDw _ _ _ => 8
  | .stxMemB _ _ _ => 1
  | .stxMemH _ _ _ => 2
  | .stxMemW _ _ _ => 4
  | .stxMemDw _ _ _ => 8
  | .ldxMemsxB _ _ _ => 0
  | .ldxMemsxH _ _ _ => 0
  | .ldxMemsxW _ _ _ => 0
  | .atomicAddW _ _ _ => 4
  | .atomicFetchAddW _ _ _ => 4
  | .atomicOrW _ _ _ => 4
  | .atomicFetchOrW _ _ _ => 4
  | .atomicAndW _ _ _ => 4
  | .atomicFetchAndW _ _ _ => 4
  | .atomicXorW _ _ _ => 4
  | .atomicFetchXorW _ _ _ => 4
  | .atomicXchgW _ _ _ => 4
  | .atomicCmpxchgW _ _ _ => 4
  | .atomicAddDw _ _ _ => 8
  | .atomicFetchAddDw _ _ _ => 8
  | .atomicOrDw _ _ _ => 8
  | .atomicFetchOrDw _ _ _ => 8
  | .atomicAndDw _ _ _ => 8
  | .atomicFetchAndDw _ _ _ => 8
  | .atomicXorDw _ _ _ => 8
  | .atomicFetchXorDw _ _ _ => 8
  | .atomicXchgDw _ _ _ => 8
  | .atomicCmpxchgDw _ _ _ => 8
  | .ldImm64 _ _ _ => 0
  | .ldMapByFd _ _ => 0
  | .ldMapValByFd _ _ _ => 0
  | .ldVarAddr _ _ => 0
  | .ldCodeAddr _ _ => 0
  | .ldMapByIdx _ _ => 0
  | .ldMapValByIdx _ _ _ => 0
  | .wideSecondSlot _ => 0
  | .ldAbsW _ => 0
  | .ldAbsH _ => 0
  | .ldAbsB _ => 0
  | .ldIndW _ _ => 0
  | .ldIndH _ _ => 0
  | .ldIndB _ _ => 0

/-- One row of the opcode table: `match` and `mask` over the canonical word of the first slot (30_encoding.md R83). -/
structure TableRow where
  value : BitVec 64
  mask : BitVec 64
  maskNext : Option (BitVec 64)
deriving DecidableEq, Repr

/-- The instruction's row of opcode_table.json; `maskNext` for the wide rows, whose match_next is 0. -/
def Instr.row : Instr → TableRow
  | .addAluK _ _ => ⟨0x0000000000000004, 0x00000000fffff0ff, none⟩
  | .addAluX _ _ => ⟨0x000000000000000c, 0xffffffffffff00ff, none⟩
  | .addAlu64K _ _ => ⟨0x0000000000000007, 0x00000000fffff0ff, none⟩
  | .addAlu64X _ _ => ⟨0x000000000000000f, 0xffffffffffff00ff, none⟩
  | .subAluK _ _ => ⟨0x0000000000000014, 0x00000000fffff0ff, none⟩
  | .subAluX _ _ => ⟨0x000000000000001c, 0xffffffffffff00ff, none⟩
  | .subAlu64K _ _ => ⟨0x0000000000000017, 0x00000000fffff0ff, none⟩
  | .subAlu64X _ _ => ⟨0x000000000000001f, 0xffffffffffff00ff, none⟩
  | .mulAluK _ _ => ⟨0x0000000000000024, 0x00000000fffff0ff, none⟩
  | .mulAluX _ _ => ⟨0x000000000000002c, 0xffffffffffff00ff, none⟩
  | .mulAlu64K _ _ => ⟨0x0000000000000027, 0x00000000fffff0ff, none⟩
  | .mulAlu64X _ _ => ⟨0x000000000000002f, 0xffffffffffff00ff, none⟩
  | .divAluK _ _ => ⟨0x0000000000000034, 0x00000000fffff0ff, none⟩
  | .divAluX _ _ => ⟨0x000000000000003c, 0xffffffffffff00ff, none⟩
  | .divAlu64K _ _ => ⟨0x0000000000000037, 0x00000000fffff0ff, none⟩
  | .divAlu64X _ _ => ⟨0x000000000000003f, 0xffffffffffff00ff, none⟩
  | .sdivAluK _ _ => ⟨0x0000000000010034, 0x00000000fffff0ff, none⟩
  | .sdivAluX _ _ => ⟨0x000000000001003c, 0xffffffffffff00ff, none⟩
  | .sdivAlu64K _ _ => ⟨0x0000000000010037, 0x00000000fffff0ff, none⟩
  | .sdivAlu64X _ _ => ⟨0x000000000001003f, 0xffffffffffff00ff, none⟩
  | .orAluK _ _ => ⟨0x0000000000000044, 0x00000000fffff0ff, none⟩
  | .orAluX _ _ => ⟨0x000000000000004c, 0xffffffffffff00ff, none⟩
  | .orAlu64K _ _ => ⟨0x0000000000000047, 0x00000000fffff0ff, none⟩
  | .orAlu64X _ _ => ⟨0x000000000000004f, 0xffffffffffff00ff, none⟩
  | .andAluK _ _ => ⟨0x0000000000000054, 0x00000000fffff0ff, none⟩
  | .andAluX _ _ => ⟨0x000000000000005c, 0xffffffffffff00ff, none⟩
  | .andAlu64K _ _ => ⟨0x0000000000000057, 0x00000000fffff0ff, none⟩
  | .andAlu64X _ _ => ⟨0x000000000000005f, 0xffffffffffff00ff, none⟩
  | .lshAluK _ _ => ⟨0x0000000000000064, 0x00000000fffff0ff, none⟩
  | .lshAluX _ _ => ⟨0x000000000000006c, 0xffffffffffff00ff, none⟩
  | .lshAlu64K _ _ => ⟨0x0000000000000067, 0x00000000fffff0ff, none⟩
  | .lshAlu64X _ _ => ⟨0x000000000000006f, 0xffffffffffff00ff, none⟩
  | .rshAluK _ _ => ⟨0x0000000000000074, 0x00000000fffff0ff, none⟩
  | .rshAluX _ _ => ⟨0x000000000000007c, 0xffffffffffff00ff, none⟩
  | .rshAlu64K _ _ => ⟨0x0000000000000077, 0x00000000fffff0ff, none⟩
  | .rshAlu64X _ _ => ⟨0x000000000000007f, 0xffffffffffff00ff, none⟩
  | .negAlu _ => ⟨0x0000000000000084, 0xfffffffffffff0ff, none⟩
  | .negAlu64 _ => ⟨0x0000000000000087, 0xfffffffffffff0ff, none⟩
  | .modAluK _ _ => ⟨0x0000000000000094, 0x00000000fffff0ff, none⟩
  | .modAluX _ _ => ⟨0x000000000000009c, 0xffffffffffff00ff, none⟩
  | .modAlu64K _ _ => ⟨0x0000000000000097, 0x00000000fffff0ff, none⟩
  | .modAlu64X _ _ => ⟨0x000000000000009f, 0xffffffffffff00ff, none⟩
  | .smodAluK _ _ => ⟨0x0000000000010094, 0x00000000fffff0ff, none⟩
  | .smodAluX _ _ => ⟨0x000000000001009c, 0xffffffffffff00ff, none⟩
  | .smodAlu64K _ _ => ⟨0x0000000000010097, 0x00000000fffff0ff, none⟩
  | .smodAlu64X _ _ => ⟨0x000000000001009f, 0xffffffffffff00ff, none⟩
  | .xorAluK _ _ => ⟨0x00000000000000a4, 0x00000000fffff0ff, none⟩
  | .xorAluX _ _ => ⟨0x00000000000000ac, 0xffffffffffff00ff, none⟩
  | .xorAlu64K _ _ => ⟨0x00000000000000a7, 0x00000000fffff0ff, none⟩
  | .xorAlu64X _ _ => ⟨0x00000000000000af, 0xffffffffffff00ff, none⟩
  | .movAluK _ _ => ⟨0x00000000000000b4, 0x00000000fffff0ff, none⟩
  | .movAluX _ _ => ⟨0x00000000000000bc, 0xffffffffffff00ff, none⟩
  | .movAlu64K _ _ => ⟨0x00000000000000b7, 0x00000000fffff0ff, none⟩
  | .movAlu64X _ _ => ⟨0x00000000000000bf, 0xffffffffffff00ff, none⟩
  | .movsx8AluX _ _ => ⟨0x00000000000800bc, 0xffffffffffff00ff, none⟩
  | .movsx16AluX _ _ => ⟨0x00000000001000bc, 0xffffffffffff00ff, none⟩
  | .movsx8Alu64X _ _ => ⟨0x00000000000800bf, 0xffffffffffff00ff, none⟩
  | .movsx16Alu64X _ _ => ⟨0x00000000001000bf, 0xffffffffffff00ff, none⟩
  | .movsx32Alu64X _ _ => ⟨0x00000000002000bf, 0xffffffffffff00ff, none⟩
  | .arshAluK _ _ => ⟨0x00000000000000c4, 0x00000000fffff0ff, none⟩
  | .arshAluX _ _ => ⟨0x00000000000000cc, 0xffffffffffff00ff, none⟩
  | .arshAlu64K _ _ => ⟨0x00000000000000c7, 0x00000000fffff0ff, none⟩
  | .arshAlu64X _ _ => ⟨0x00000000000000cf, 0xffffffffffff00ff, none⟩
  | .endToLe16 _ => ⟨0x00000010000000d4, 0xfffffffffffff0ff, none⟩
  | .endToLe32 _ => ⟨0x00000020000000d4, 0xfffffffffffff0ff, none⟩
  | .endToLe64 _ => ⟨0x00000040000000d4, 0xfffffffffffff0ff, none⟩
  | .endToBe16 _ => ⟨0x00000010000000dc, 0xfffffffffffff0ff, none⟩
  | .endToBe32 _ => ⟨0x00000020000000dc, 0xfffffffffffff0ff, none⟩
  | .endToBe64 _ => ⟨0x00000040000000dc, 0xfffffffffffff0ff, none⟩
  | .bswap16 _ => ⟨0x00000010000000d7, 0xfffffffffffff0ff, none⟩
  | .bswap32 _ => ⟨0x00000020000000d7, 0xfffffffffffff0ff, none⟩
  | .bswap64 _ => ⟨0x00000040000000d7, 0xfffffffffffff0ff, none⟩
  | .jaJmp _ => ⟨0x0000000000000005, 0xffffffff0000ffff, none⟩
  | .jaJmp32 _ => ⟨0x0000000000000006, 0x00000000ffffffff, none⟩
  | .jeqJmpK _ _ _ => ⟨0x0000000000000015, 0x000000000000f0ff, none⟩
  | .jeqJmpX _ _ _ => ⟨0x000000000000001d, 0xffffffff000000ff, none⟩
  | .jeqJmp32K _ _ _ => ⟨0x0000000000000016, 0x000000000000f0ff, none⟩
  | .jeqJmp32X _ _ _ => ⟨0x000000000000001e, 0xffffffff000000ff, none⟩
  | .jgtJmpK _ _ _ => ⟨0x0000000000000025, 0x000000000000f0ff, none⟩
  | .jgtJmpX _ _ _ => ⟨0x000000000000002d, 0xffffffff000000ff, none⟩
  | .jgtJmp32K _ _ _ => ⟨0x0000000000000026, 0x000000000000f0ff, none⟩
  | .jgtJmp32X _ _ _ => ⟨0x000000000000002e, 0xffffffff000000ff, none⟩
  | .jgeJmpK _ _ _ => ⟨0x0000000000000035, 0x000000000000f0ff, none⟩
  | .jgeJmpX _ _ _ => ⟨0x000000000000003d, 0xffffffff000000ff, none⟩
  | .jgeJmp32K _ _ _ => ⟨0x0000000000000036, 0x000000000000f0ff, none⟩
  | .jgeJmp32X _ _ _ => ⟨0x000000000000003e, 0xffffffff000000ff, none⟩
  | .jsetJmpK _ _ _ => ⟨0x0000000000000045, 0x000000000000f0ff, none⟩
  | .jsetJmpX _ _ _ => ⟨0x000000000000004d, 0xffffffff000000ff, none⟩
  | .jsetJmp32K _ _ _ => ⟨0x0000000000000046, 0x000000000000f0ff, none⟩
  | .jsetJmp32X _ _ _ => ⟨0x000000000000004e, 0xffffffff000000ff, none⟩
  | .jneJmpK _ _ _ => ⟨0x0000000000000055, 0x000000000000f0ff, none⟩
  | .jneJmpX _ _ _ => ⟨0x000000000000005d, 0xffffffff000000ff, none⟩
  | .jneJmp32K _ _ _ => ⟨0x0000000000000056, 0x000000000000f0ff, none⟩
  | .jneJmp32X _ _ _ => ⟨0x000000000000005e, 0xffffffff000000ff, none⟩
  | .jsgtJmpK _ _ _ => ⟨0x0000000000000065, 0x000000000000f0ff, none⟩
  | .jsgtJmpX _ _ _ => ⟨0x000000000000006d, 0xffffffff000000ff, none⟩
  | .jsgtJmp32K _ _ _ => ⟨0x0000000000000066, 0x000000000000f0ff, none⟩
  | .jsgtJmp32X _ _ _ => ⟨0x000000000000006e, 0xffffffff000000ff, none⟩
  | .jsgeJmpK _ _ _ => ⟨0x0000000000000075, 0x000000000000f0ff, none⟩
  | .jsgeJmpX _ _ _ => ⟨0x000000000000007d, 0xffffffff000000ff, none⟩
  | .jsgeJmp32K _ _ _ => ⟨0x0000000000000076, 0x000000000000f0ff, none⟩
  | .jsgeJmp32X _ _ _ => ⟨0x000000000000007e, 0xffffffff000000ff, none⟩
  | .jltJmpK _ _ _ => ⟨0x00000000000000a5, 0x000000000000f0ff, none⟩
  | .jltJmpX _ _ _ => ⟨0x00000000000000ad, 0xffffffff000000ff, none⟩
  | .jltJmp32K _ _ _ => ⟨0x00000000000000a6, 0x000000000000f0ff, none⟩
  | .jltJmp32X _ _ _ => ⟨0x00000000000000ae, 0xffffffff000000ff, none⟩
  | .jleJmpK _ _ _ => ⟨0x00000000000000b5, 0x000000000000f0ff, none⟩
  | .jleJmpX _ _ _ => ⟨0x00000000000000bd, 0xffffffff000000ff, none⟩
  | .jleJmp32K _ _ _ => ⟨0x00000000000000b6, 0x000000000000f0ff, none⟩
  | .jleJmp32X _ _ _ => ⟨0x00000000000000be, 0xffffffff000000ff, none⟩
  | .jsltJmpK _ _ _ => ⟨0x00000000000000c5, 0x000000000000f0ff, none⟩
  | .jsltJmpX _ _ _ => ⟨0x00000000000000cd, 0xffffffff000000ff, none⟩
  | .jsltJmp32K _ _ _ => ⟨0x00000000000000c6, 0x000000000000f0ff, none⟩
  | .jsltJmp32X _ _ _ => ⟨0x00000000000000ce, 0xffffffff000000ff, none⟩
  | .jsleJmpK _ _ _ => ⟨0x00000000000000d5, 0x000000000000f0ff, none⟩
  | .jsleJmpX _ _ _ => ⟨0x00000000000000dd, 0xffffffff000000ff, none⟩
  | .jsleJmp32K _ _ _ => ⟨0x00000000000000d6, 0x000000000000f0ff, none⟩
  | .jsleJmp32X _ _ _ => ⟨0x00000000000000de, 0xffffffff000000ff, none⟩
  | .callHelper _ => ⟨0x0000000000000085, 0x00000000ffffffff, none⟩
  | .callLocal _ => ⟨0x0000000000001085, 0x00000000ffffffff, none⟩
  | .callHelperBtf _ => ⟨0x0000000000002085, 0x00000000ffffffff, none⟩
  | .exit => ⟨0x0000000000000095, 0xffffffffffffffff, none⟩
  | .ldxMemB _ _ _ => ⟨0x0000000000000071, 0xffffffff000000ff, none⟩
  | .ldxMemH _ _ _ => ⟨0x0000000000000069, 0xffffffff000000ff, none⟩
  | .ldxMemW _ _ _ => ⟨0x0000000000000061, 0xffffffff000000ff, none⟩
  | .ldxMemDw _ _ _ => ⟨0x0000000000000079, 0xffffffff000000ff, none⟩
  | .stMemB _ _ _ => ⟨0x0000000000000072, 0x000000000000f0ff, none⟩
  | .stMemH _ _ _ => ⟨0x000000000000006a, 0x000000000000f0ff, none⟩
  | .stMemW _ _ _ => ⟨0x0000000000000062, 0x000000000000f0ff, none⟩
  | .stMemDw _ _ _ => ⟨0x000000000000007a, 0x000000000000f0ff, none⟩
  | .stxMemB _ _ _ => ⟨0x0000000000000073, 0xffffffff000000ff, none⟩
  | .stxMemH _ _ _ => ⟨0x000000000000006b, 0xffffffff000000ff, none⟩
  | .stxMemW _ _ _ => ⟨0x0000000000000063, 0xffffffff000000ff, none⟩
  | .stxMemDw _ _ _ => ⟨0x000000000000007b, 0xffffffff000000ff, none⟩
  | .ldxMemsxB _ _ _ => ⟨0x0000000000000091, 0xffffffff000000ff, none⟩
  | .ldxMemsxH _ _ _ => ⟨0x0000000000000089, 0xffffffff000000ff, none⟩
  | .ldxMemsxW _ _ _ => ⟨0x0000000000000081, 0xffffffff000000ff, none⟩
  | .atomicAddW _ _ _ => ⟨0x00000000000000c3, 0xffffffff000000ff, none⟩
  | .atomicFetchAddW _ _ _ => ⟨0x00000001000000c3, 0xffffffff000000ff, none⟩
  | .atomicOrW _ _ _ => ⟨0x00000040000000c3, 0xffffffff000000ff, none⟩
  | .atomicFetchOrW _ _ _ => ⟨0x00000041000000c3, 0xffffffff000000ff, none⟩
  | .atomicAndW _ _ _ => ⟨0x00000050000000c3, 0xffffffff000000ff, none⟩
  | .atomicFetchAndW _ _ _ => ⟨0x00000051000000c3, 0xffffffff000000ff, none⟩
  | .atomicXorW _ _ _ => ⟨0x000000a0000000c3, 0xffffffff000000ff, none⟩
  | .atomicFetchXorW _ _ _ => ⟨0x000000a1000000c3, 0xffffffff000000ff, none⟩
  | .atomicXchgW _ _ _ => ⟨0x000000e1000000c3, 0xffffffff000000ff, none⟩
  | .atomicCmpxchgW _ _ _ => ⟨0x000000f1000000c3, 0xffffffff000000ff, none⟩
  | .atomicAddDw _ _ _ => ⟨0x00000000000000db, 0xffffffff000000ff, none⟩
  | .atomicFetchAddDw _ _ _ => ⟨0x00000001000000db, 0xffffffff000000ff, none⟩
  | .atomicOrDw _ _ _ => ⟨0x00000040000000db, 0xffffffff000000ff, none⟩
  | .atomicFetchOrDw _ _ _ => ⟨0x00000041000000db, 0xffffffff000000ff, none⟩
  | .atomicAndDw _ _ _ => ⟨0x00000050000000db, 0xffffffff000000ff, none⟩
  | .atomicFetchAndDw _ _ _ => ⟨0x00000051000000db, 0xffffffff000000ff, none⟩
  | .atomicXorDw _ _ _ => ⟨0x000000a0000000db, 0xffffffff000000ff, none⟩
  | .atomicFetchXorDw _ _ _ => ⟨0x000000a1000000db, 0xffffffff000000ff, none⟩
  | .atomicXchgDw _ _ _ => ⟨0x000000e1000000db, 0xffffffff000000ff, none⟩
  | .atomicCmpxchgDw _ _ _ => ⟨0x000000f1000000db, 0xffffffff000000ff, none⟩
  | .ldImm64 _ _ _ => ⟨0x0000000000000018, 0x00000000fffff0ff, some 0x00000000ffffffff⟩
  | .ldMapByFd _ _ => ⟨0x0000000000001018, 0x00000000fffff0ff, some 0xffffffffffffffff⟩
  | .ldMapValByFd _ _ _ => ⟨0x0000000000002018, 0x00000000fffff0ff, some 0x00000000ffffffff⟩
  | .ldVarAddr _ _ => ⟨0x0000000000003018, 0x00000000fffff0ff, some 0xffffffffffffffff⟩
  | .ldCodeAddr _ _ => ⟨0x0000000000004018, 0x00000000fffff0ff, some 0xffffffffffffffff⟩
  | .ldMapByIdx _ _ => ⟨0x0000000000005018, 0x00000000fffff0ff, some 0xffffffffffffffff⟩
  | .ldMapValByIdx _ _ _ => ⟨0x0000000000006018, 0x00000000fffff0ff, some 0x00000000ffffffff⟩
  | .wideSecondSlot _ => ⟨0x0000000000000000, 0x00000000ffffffff, none⟩
  | .ldAbsW _ => ⟨0x0000000000000020, 0x00000000ffffffff, none⟩
  | .ldAbsH _ => ⟨0x0000000000000028, 0x00000000ffffffff, none⟩
  | .ldAbsB _ => ⟨0x0000000000000030, 0x00000000ffffffff, none⟩
  | .ldIndW _ _ => ⟨0x0000000000000040, 0x00000000ffff0fff, none⟩
  | .ldIndH _ _ => ⟨0x0000000000000048, 0x00000000ffff0fff, none⟩
  | .ldIndB _ _ => ⟨0x0000000000000050, 0x00000000ffff0fff, none⟩

end Sys2Proof
end

