-- ==== Sys2Proof/Safety.lean ====
section
/-! DEFINITION. What counts as a safe run: legal parameters, the static well-formedness of a program
(60_exceptions.md R418), the invariant every step keeps, and running without a fault. -/

namespace Sys2Proof.Machine

/-- The parameters satisfy the conditions the spec puts on them: GROUPS is legal (00_scope.md R5); every region
lies below 2^64 and no two overlap (20_memory.md R41). No rule of the machine depends on it (log 2). -/
def configLegal (cfg : Config) : Prop :=
  Groups.legal cfg.groups = true ∧ (∀ r ∈ cfg.regions, r.base + r.length ≤ 2 ^ 64) ∧
    cfg.regions.Pairwise fun r q => r.base + r.length ≤ q.base ∨ q.base + q.length ≤ r.base

/-- The instruction passes every check made before a register is read: its group is in GROUPS, its register
fields name registers, and under R10_READ_ONLY it does not write x[10] through a field (00_scope.md R7;
30_encoding.md R70). -/
def instrPermitted (cfg : Config) (i : Instr) : Bool := mayRun cfg i.group i.regFields i.written

/-- The instruction is only a second slot (47_imm64.md R356). -/
def isSecondSlotInstr (i : Instr) : Bool :=
  match i with
  | .wideSecondSlot _ => true
  | _ => false

/-- An instruction after which a fall-through never happens: EXIT, JA_JMP or JA_JMP32 (60_exceptions.md R418(4)). -/
def endsFlow (i : Instr) : Bool :=
  match i with
  | .exit => true
  | .jaJmp _ => true
  | .jaJmp32 _ => true
  | _ => false

/-- R418(2) and R418(3) for the slot `k` of a program: it decodes to a permitted instruction, and if that jumps or
calls within the program, its target is valid whether or not the jump is taken. -/
def slotWellFormed (cfg : Config) (program : List Slot) (k : Nat) : Bool :=
  match decode cfg.endian (program.drop k) with
  | .error _ => false
  | .ok i =>
    instrPermitted cfg i && !isSecondSlotInstr i &&
      match i.jumpDistance with
      | none => true
      | some D => validTarget program (k + 1 + D)

/-- The slots of a program that are not second slots (43_jump.md R202). -/
def firstSlots (program : List Slot) : List Nat :=
  (List.range program.length).filter fun k => !isSecondSlot program k

/-- R418(4): the last slot that is not a second slot is EXIT, JA_JMP or JA_JMP32. -/
def endsWell (cfg : Config) (program : List Slot) : Bool :=
  match (firstSlots program).getLast? with
  | none => false
  | some k =>
    match decode cfg.endian (program.drop k) with
    | .error _ => false
    | .ok i => endsFlow i

/-- WellFormed(PROGRAM, GROUPS), the static predicate of 60_exceptions.md R418. A slot that only a second slot may
be is not counted as an instruction, and R10_READ_ONLY counts among the register-range conditions (log 19). -/
def programWellFormed (cfg : Config) (program : List Slot) : Bool :=
  decide (1 ≤ program.length) && (firstSlots program).all (slotWellFormed cfg program) && endsWell cfg program

/-- A slot index a run may stand at or return to: inside the program or just past its end, and no second slot. -/
def reachableSlot (program : List Slot) (t : Nat) : Prop := t ≤ program.length ∧ isSecondSlot program t = false

/-- The invariant of the machine: memory is canonical and lists only bytes of REGIONS (20_memory.md R41); the call
stack is within MAX_CALL_DEPTH and holds slots of the program (10_state.md R28; 43_jump.md R214); and while the
program runs, with no PacketAccess to move it, pc is a slot of the program or just past its end, never a second slot
(10_state.md R26; 43_jump.md R202). -/
structure Inv (s : State) : Prop where
  mem_wf : s.mem.wf = true
  mem_exists : ∀ c ∈ s.mem, byteExists s.cfg.regions c.1 = true
  depth : s.callstack.length ≤ s.cfg.maxCallDepth
  returns : ∀ t ∈ s.callstack, reachableSlot s.program t
  pc : s.status = .running → s.cfg.packetAccess = false → reachableSlot s.program s.pc

/-- The fault is one that WellFormed(PROGRAM, GROUPS) rules out (60_exceptions.md R418). -/
def staticFault (f : FaultInfo) : Prop :=
  (∃ pc, f = .illegalInstruction pc) ∨ (∃ t, f = .badJumpTarget t)

/-- A run that is not Faulted (10_state.md R30). -/
def State.faultFree (s : State) : Prop := ∀ f, s.status ≠ .faulted f

/-- The states a run can reach from `s` by steps that answer a next state (10_state.md R35). -/
inductive Reaches (s : State) : State → Prop where
  | start : Reaches s s
  | step {t u : State} : Reaches s t → step t = .next u → Reaches s u

end Sys2Proof.Machine
end

