-- ==== Sys2Proof/Certificates/Slice0/Obligations.lean ====
section
/-! DEFINITION. The statements for the provers. The results of instructions are stated over exact natural numbers and
integers and over single bytes of memory, apart from the model's own operations, from the pseudocode of the
instruction rules. -/

namespace Sys2Proof.Claims

open Sys2Proof.Machine

/-! ### Vocabulary of the statements -/

/-- The instruction passes the checks made before any register is read: its group is supported, its register fields are
0 .. 10, and it does not write x[10] through a field under R10_READ_ONLY (00_scope.md R7; 30_encoding.md R70). -/
abbrev MayRun (s : State) (i : Instr) : Prop :=
  Groups.has s.cfg.groups i.group = true ∧ (∀ r ∈ i.regFields, r.toNat ≤ 10) ∧
    (s.cfg.r10ReadOnly = true → i.written ≠ some 10)

/-- Executing the instruction answers a next state, of which `P` holds. -/
def Completes (i : Instr) (s : State) (P : State → Prop) : Prop := ∃ t, exec i s = .next t ∧ P t

/-- Executing the instruction raises the fault: status is Faulted and nothing else changes (60_exceptions.md R401). -/
def Raises (i : Instr) (s : State) (f : FaultInfo) : Prop := exec i s = .next { s with status := .faulted f }

/-- The instruction's effect is the platform's: a helper call or a legacy packet load (43_jump.md R206;
48_legacy_packet.md R360). -/
abbrev IsPlatforms (i : Instr) : Prop := i.callsHelper = true ∨ i.group = .packet

/-- Every byte of memory is as before. -/
def SameMemory (s t : State) : Prop := t.mem = s.mem ∧ ∀ a, t.mem.read a = s.mem.read a

/-- The call stack, the program, the status, the helpers' private state and the parameters are as before. -/
def SameRest (s t : State) : Prop :=
  t.callstack = s.callstack ∧ t.program = s.program ∧ t.status = s.status ∧ t.platform = s.platform ∧ t.cfg = s.cfg

/-- x[d] holds `v`; every other register, every byte of memory and the rest of the state are as before; pc has
advanced by `n`. -/
def RegResult (s t : State) (d : RegNum) (v : Word) (n : Nat) : Prop :=
  Regs.get t.regs d = some v ∧ (∀ q, q ≠ d → Regs.get t.regs q = Regs.get s.regs q) ∧ SameMemory s t ∧
    t.pc = s.pc + n ∧ SameRest s t

/-- `RegResult` with the value given as a number below 2^64. -/
def RegNumber (s t : State) (d : RegNum) (v n : Nat) : Prop :=
  v < 2 ^ 64 ∧ RegResult s t d (BitVec.ofNat 64 v) n

/-- Where byte `k` of an `n`-byte datum lies above its address (20_memory.md R43). -/
def hostByte (e : Endian) (n k : Nat) : Nat :=
  match e with
  | .little => k
  | .big => n - 1 - k

/-- The `n` bytes of memory at `a` hold the number `v` in host byte order (20_memory.md R45). -/
def MemHolds (s : State) (a n : Nat) (v : Word) : Prop :=
  v.toNat < 2 ^ (8 * n) ∧ ∀ k < n, s.mem.read (a + hostByte s.cfg.endian n k) = v.extractLsb' (8 * k) 8

/-- The `n` bytes at `a` hold the low `n` bytes of `v` in host byte order, and every other byte is as before
(20_memory.md R46). -/
def StoresAt (s t : State) (a n : Nat) (v : Word) : Prop :=
  (∀ k < n, t.mem.read (a + hostByte s.cfg.endian n k) = v.extractLsb' (8 * k) 8) ∧
    ∀ b, b < a ∨ a + n ≤ b → t.mem.read b = s.mem.read b

/-- A store of the low `n` bytes of `v` at `a`: no register changes, pc advances by 1, the rest is as before. -/
def StoreResult (s t : State) (a n : Nat) (v : Word) : Prop :=
  StoresAt s t a n v ∧ t.regs = s.regs ∧ t.pc = s.pc + 1 ∧ SameRest s t

/-- All `n` bytes at `a` lie below 2^64 and in one region with the permission the access needs: read for a load, write
for a store, both for an atomic (20_memory.md R41, R45, R46; 46_atomic.md R305). -/
abbrev InRegion (s : State) (k : AccessKind) (a n : Nat) : Prop :=
  a + n ≤ 2 ^ 64 ∧ ∃ r ∈ s.cfg.regions, r.base ≤ a ∧ a + n ≤ r.base + r.length ∧
    (k ≠ .store → r.readable = true) ∧ (k ≠ .load → r.writable = true)

/-- The alignment an access needs (20_memory.md R47; 46_atomic.md R305). -/
abbrev AlignedFor (s : State) (k : AccessKind) (a n : Nat) : Prop :=
  a % n = 0 ∨ (s.cfg.strictAlignment = false ∧ k ≠ .atomic)

/-- The access raises neither MemFault nor Misaligned (20_memory.md R45-R47). -/
abbrev AccessOk (s : State) (k : AccessKind) (a n : Nat) : Prop := InRegion s k a n ∧ AlignedFor s k a n

/-- ValidTarget(t) (43_jump.md R201). -/
abbrev ValidTarget (s : State) (t : Int) : Prop :=
  0 ≤ t ∧ t < s.program.length ∧ isSecondSlot s.program t.toNat = false

/-- What a conditional jump does when its condition is `taken`: on to pc + 1 if not taken; else to the target, or
BadJumpTarget; nothing else changes (44_jump_cond.md R220; 43_jump.md R201). -/
def Branches (i : Instr) (s : State) (taken : Prop) (off : Offset) : Prop :=
  (¬ taken → exec i s = .next { s with pc := s.pc + 1 }) ∧
  (taken → ValidTarget s (s.pc + 1 + off.toInt) →
    exec i s = .next { s with pc := (s.pc + 1 + off.toInt).toNat }) ∧
  (taken → ¬ ValidTarget s (s.pc + 1 + off.toInt) → Raises i s (.badJumpTarget (s.pc + 1 + off.toInt)))

/-- The byte a list of writes leaves at an address that may be written: the last one for it, else the old byte. -/
def written (ws : List Host.Cell) (s : State) (a : Nat) : Byte := (ws.reverse.lookup a).getD (s.mem.read a)

/-! ### Arithmetic on N-bit numbers, from the pseudocode -/

/-- The number an N-bit pattern stands for in two's complement (00_scope.md R14). -/
def signed (N x : Nat) : Int := if x < 2 ^ (N - 1) then (x : Int) else (x : Int) - 2 ^ N

/-- An integer reduced modulo 2^N (00_scope.md R14). -/
def wrap (N : Nat) (z : Int) : Nat := (z % 2 ^ N).toNat

/-- `v[31:0]` as a number. -/
def low (v : Word) : Nat := v.toNat % 2 ^ 32

/-- sext_64(imm) as a number. -/
def sext (imm : Imm) : Nat := wrap 64 imm.toInt

/-- sext_M of the low N bits of a number (00_scope.md R12). -/
def sextFrom (N M x : Nat) : Nat := wrap M (signed N (x % 2 ^ N))

/-- ADD: (a + b) mod 2^N. -/
def addN (N x y : Nat) : Nat := (x + y) % 2 ^ N

/-- SUB: (a - b) mod 2^N. -/
def subN (N x y : Nat) : Nat := wrap N ((x : Int) - (y : Int))

/-- MUL: (a * b) mod 2^N. -/
def mulN (N x y : Nat) : Nat := x * y % 2 ^ N

/-- DIV: floor(a / b), or 0. -/
def divN (x y : Nat) : Nat := if y = 0 then 0 else x / y

/-- MOD: a - b * floor(a / b), or a. -/
def modN (x y : Nat) : Nat := if y = 0 then x else x - y * (x / y)

/-- SDIV: trunc(sN(a) / sN(b)) mod 2^N, or 0. -/
def sdivN (N x y : Nat) : Nat := if y = 0 then 0 else wrap N ((signed N x).tdiv (signed N y))

/-- SMOD: (sN(a) - sN(b) * trunc(sN(a) / sN(b))) mod 2^N, or a. -/
def smodN (N x y : Nat) : Nat :=
  if y = 0 then x else wrap N (signed N x - signed N y * (signed N x).tdiv (signed N y))

/-- LSH by b & (N - 1): zeros enter at bit 0. -/
def lshN (N x y : Nat) : Nat := x * 2 ^ (y &&& (N - 1)) % 2 ^ N

/-- RSH by b & (N - 1): zeros enter at the top. -/
def rshN (N x y : Nat) : Nat := x / 2 ^ (y &&& (N - 1))

/-- ARSH by b & (N - 1): copies of the sign bit enter at the top. -/
def arshN (N x y : Nat) : Nat := wrap N ((signed N x).fdiv (2 ^ (y &&& (N - 1))))

/-- bswap_N with N = 8n: byte k of the result is byte n - 1 - k of the operand, and the rest is zero
(00_scope.md R11). -/
def Reverses (n : Nat) (v r : Word) : Prop :=
  r.toNat < 2 ^ (8 * n) ∧ ∀ k < n, r.extractLsb' (8 * k) 8 = v.extractLsb' (8 * (n - 1 - k)) 8

end Sys2Proof.Claims

open Sys2Proof Sys2Proof.Machine Sys2Proof.Claims

/-- The source's worked example: the same instruction from its bytes on both hosts, and its canonical word
(30_encoding.md R67). -/
def Obligations.WorkedEncodingExample : Prop :=
  decode .little (slotsOfBytes [0x07, 0x01, 0x00, 0x00, 0x44, 0x33, 0x22, 0x11]) = .ok (.addAlu64K 1 0x11223344) ∧
    decode .big (slotsOfBytes [0x07, 0x10, 0x00, 0x00, 0x11, 0x22, 0x33, 0x44]) = .ok (.addAlu64K 1 0x11223344) ∧
    ((slotsOfBytes [0x07, 0x01, 0x00, 0x00, 0x44, 0x33, 0x22, 0x11]).map fun sl => (sl.fields .little).word) =
      [0x1122334400000107] ∧
    ((slotsOfBytes [0x07, 0x10, 0x00, 0x00, 0x11, 0x22, 0x33, 0x44]).map fun sl => (sl.fields .big).word) =
      [0x1122334400000107]

/-- One instruction of each family, from the bytes its rule's example gives, on both hosts. -/
def Obligations.SampleEncodings : Prop :=
  decode .little (slotsOfBytes
      [0x34, 0x01, 0x01, 0x00, 0xfd, 0xff, 0xff, 0xff]) =
        .ok (.sdivAluK 1 0xfffffffd) ∧
    decode .big (slotsOfBytes
      [0x34, 0x10, 0x00, 0x01, 0xff, 0xff, 0xff, 0xfd]) =
        .ok (.sdivAluK 1 0xfffffffd) ∧
    decode .little (slotsOfBytes
      [0xbc, 0x21, 0x08, 0x00, 0x00, 0x00, 0x00, 0x00]) =
        .ok (.movsx8AluX 1 2) ∧
    decode .big (slotsOfBytes
      [0xbc, 0x12, 0x00, 0x08, 0x00, 0x00, 0x00, 0x00]) =
        .ok (.movsx8AluX 1 2) ∧
    decode .little (slotsOfBytes
      [0xdc, 0x01, 0x00, 0x00, 0x20, 0x00, 0x00, 0x00]) =
        .ok (.endToBe32 1) ∧
    decode .big (slotsOfBytes
      [0xdc, 0x10, 0x00, 0x00, 0x00, 0x00, 0x00, 0x20]) =
        .ok (.endToBe32 1) ∧
    decode .little (slotsOfBytes
      [0x6e, 0x21, 0x03, 0x00, 0x00, 0x00, 0x00, 0x00]) =
        .ok (.jsgtJmp32X 1 2 3) ∧
    decode .big (slotsOfBytes
      [0x6e, 0x12, 0x00, 0x03, 0x00, 0x00, 0x00, 0x00]) =
        .ok (.jsgtJmp32X 1 2 3) ∧
    decode .little (slotsOfBytes
      [0x85, 0x10, 0x00, 0x00, 0x05, 0x00, 0x00, 0x00]) =
        .ok (.callLocal 5) ∧
    decode .big (slotsOfBytes
      [0x85, 0x01, 0x00, 0x00, 0x00, 0x00, 0x00, 0x05]) =
        .ok (.callLocal 5) ∧
    decode .little (slotsOfBytes
      [0x95, 0x00, 0x00, 0x00, 0x00, 0x00, 0x00, 0x00]) =
        .ok (.exit) ∧
    decode .big (slotsOfBytes
      [0x95, 0x00, 0x00, 0x00, 0x00, 0x00, 0x00, 0x00]) =
        .ok (.exit) ∧
    decode .little (slotsOfBytes
      [0x89, 0x21, 0x08, 0x00, 0x00, 0x00, 0x00, 0x00]) =
        .ok (.ldxMemsxH 1 2 8) ∧
    decode .big (slotsOfBytes
      [0x89, 0x12, 0x00, 0x08, 0x00, 0x00, 0x00, 0x00]) =
        .ok (.ldxMemsxH 1 2 8) ∧
    decode .little (slotsOfBytes
      [0x7a, 0x01, 0x10, 0x00, 0xfe, 0xff, 0xff, 0xff]) =
        .ok (.stMemDw 1 0x10 0xfffffffe) ∧
    decode .big (slotsOfBytes
      [0x7a, 0x10, 0x00, 0x10, 0xff, 0xff, 0xff, 0xfe]) =
        .ok (.stMemDw 1 0x10 0xfffffffe) ∧
    decode .little (slotsOfBytes
      [0xdb, 0x21, 0x10, 0x00, 0xf1, 0x00, 0x00, 0x00]) =
        .ok (.atomicCmpxchgDw 1 2 0x10) ∧
    decode .big (slotsOfBytes
      [0xdb, 0x12, 0x00, 0x10, 0x00, 0x00, 0x00, 0xf1]) =
        .ok (.atomicCmpxchgDw 1 2 0x10) ∧
    decode .little (slotsOfBytes
      [0x18, 0x01, 0x00, 0x00, 0xef, 0xcd, 0xab, 0x89, 0x00, 0x00, 0x00, 0x00, 0x67, 0x45, 0x23, 0x01]) =
        .ok (.ldImm64 1 0x89abcdef 0x1234567) ∧
    decode .big (slotsOfBytes
      [0x18, 0x10, 0x00, 0x00, 0x89, 0xab, 0xcd, 0xef, 0x00, 0x00, 0x00, 0x00, 0x01, 0x23, 0x45, 0x67]) =
        .ok (.ldImm64 1 0x89abcdef 0x1234567) ∧
    decode .little (slotsOfBytes
      [0x48, 0x20, 0x00, 0x00, 0x0e, 0x00, 0x00, 0x00]) =
        .ok (.ldIndH 2 0xe) ∧
    decode .big (slotsOfBytes
      [0x48, 0x02, 0x00, 0x00, 0x00, 0x00, 0x00, 0x0e]) =
        .ok (.ldIndH 2 0xe)

/-- Where the two register numbers stand in the regs byte on each host (30_encoding.md R64). -/
def Obligations.RegisterNibbles : Prop :=
  (∀ sl : Slot,
    (sl.fields .little).src = sl.b1.extractLsb' 4 4 ∧ (sl.fields .little).dst = sl.b1.extractLsb' 0 4 ∧
    (sl.fields .big).dst = sl.b1.extractLsb' 4 4 ∧ (sl.fields .big).src = sl.b1.extractLsb' 0 4) ∧
  ((slotsOfBytes [0x07, 0x01, 0x00, 0x00, 0x44, 0x33, 0x22, 0x11]).map fun sl =>
    ((sl.fields .little).src, (sl.fields .little).dst)) = [(0, 1)] ∧
  ((slotsOfBytes [0x07, 0x10, 0x00, 0x00, 0x11, 0x22, 0x33, 0x44]).map fun sl =>
    ((sl.fields .big).dst, (sl.fields .big).src)) = [(1, 0)]

/-- Decoding the encoding of a well-formed instruction gives the instruction, with every operand at every value and
whatever slots follow. -/
def Obligations.DecodeEncode : Prop :=
  ∀ (e : Endian) (i : Instr) (rest : List Slot), i.wf = true → decode e (encode e i ++ rest) = .ok i

/-- The decoder reads nothing it does not understand: the slots it reads an instruction from are exactly the encoding
of that instruction, which is well-formed. No encoding outside the opcode table decodes. -/
def Obligations.EncodeDecode : Prop :=
  ∀ (e : Endian) (slots : List Slot) (i : Instr), decode e slots = .ok i →
    i.wf = true ∧ slots = encode e i ++ slots.drop i.size

/-- A decoded slot matches the row of opcode_table.json of its instruction, and so does its second slot if it is wide.
-/
def Obligations.DecodedWordMatchesRow : Prop :=
  ∀ (e : Endian) (sl : Slot) (rest : List Slot) (i : Instr), decode e (sl :: rest) = .ok i →
    (sl.fields e).word &&& i.row.mask = i.row.value ∧
    ∀ m, i.row.maskNext = some m → ∃ second tail, rest = second :: tail ∧ (second.fields e).word &&& m = 0

/-- No canonical word matches two rows of the opcode table. -/
def Obligations.RowsAreExclusive : Prop :=
  ∀ (i j : Instr) (w : BitVec 64), w &&& i.row.mask = i.row.value → w &&& j.row.mask = j.row.value →
    i.row = j.row

/-- The src_reg field of opcode 0x85 selects one of three calls, dst_reg and offset are unused, imm may be anything,
and CALL exists with no other opcode byte (43_jump.md R205). That a non-zero unused field makes the slot no
instruction is 30_encoding.md R69, the spec's own decision D15. -/
def Obligations.CallSubtypes : Prop :=
  ∀ (e : Endian) (d r : RegNum) (off : Offset) (imm : Imm) (rest : List Slot),
    decode e ((⟨0x85, 0, 0, 0, imm⟩ : Fields).slot e :: rest) = .ok (.callHelper imm) ∧
    decode e ((⟨0x85, 0, 1, 0, imm⟩ : Fields).slot e :: rest) = .ok (.callLocal imm) ∧
    decode e ((⟨0x85, 0, 2, 0, imm⟩ : Fields).slot e :: rest) = .ok (.callHelperBtf imm) ∧
    (2 < r.toNat ∨ d ≠ 0 ∨ off ≠ 0 → ∀ i, decode e ((⟨0x85, d, r, off, imm⟩ : Fields).slot e :: rest) ≠ .ok i) ∧
    ∀ op ∈ [(0x8d : BitVec 8), 0x86, 0x8e], ∀ i, decode e ((⟨op, d, r, off, imm⟩ : Fields).slot e :: rest) ≠ .ok i

/-- The ten values of imm that select an atomic operation, with its W and DW form (46_atomic.md R301). -/
def Sys2Proof.Claims.atomicSelectors (d r : RegNum) (off : Offset) : List (Imm × Instr × Instr) :=
  [(0x00, .atomicAddW d r off, .atomicAddDw d r off), (0x01, .atomicFetchAddW d r off, .atomicFetchAddDw d r off),
    (0x40, .atomicOrW d r off, .atomicOrDw d r off), (0x41, .atomicFetchOrW d r off, .atomicFetchOrDw d r off),
    (0x50, .atomicAndW d r off, .atomicAndDw d r off), (0x51, .atomicFetchAndW d r off, .atomicFetchAndDw d r off),
    (0xa0, .atomicXorW d r off, .atomicXorDw d r off), (0xa1, .atomicFetchXorW d r off, .atomicFetchXorDw d r off),
    (0xe1, .atomicXchgW d r off, .atomicXchgDw d r off), (0xf1, .atomicCmpxchgW d r off, .atomicCmpxchgDw d r off)]

/-- The whole imm of an atomic must be one of exactly ten values, which select the operation (46_atomic.md R301). -/
def Obligations.AtomicSelectors : Prop :=
  ∀ (e : Endian) (d r : RegNum) (off : Offset) (imm : Imm) (rest : List Slot), d.toNat ≤ 10 → r.toNat ≤ 10 →
    (∀ p ∈ atomicSelectors d r off,
      decode e ((⟨0xc3, d, r, off, p.1⟩ : Fields).slot e :: rest) = .ok p.2.1 ∧
      decode e ((⟨0xdb, d, r, off, p.1⟩ : Fields).slot e :: rest) = .ok p.2.2) ∧
    (imm ∉ [(0x00 : Imm), 0x01, 0x40, 0x41, 0x50, 0x51, 0xa0, 0xa1, 0xe1, 0xf1] → ∀ i,
      decode e ((⟨0xc3, d, r, off, imm⟩ : Fields).slot e :: rest) ≠ .ok i ∧
      decode e ((⟨0xdb, d, r, off, imm⟩ : Fields).slot e :: rest) ≠ .ok i)

/-- The nine byte swaps by opcode byte and width (42_byteswap.md R182). -/
def Sys2Proof.Claims.swapSelectors (d : RegNum) : List (BitVec 8 × Imm × Instr) :=
  [(0xd4, 16, .endToLe16 d), (0xd4, 32, .endToLe32 d), (0xd4, 64, .endToLe64 d),
    (0xdc, 16, .endToBe16 d), (0xdc, 32, .endToBe32 d), (0xdc, 64, .endToBe64 d),
    (0xd7, 16, .bswap16 d), (0xd7, 32, .bswap32 d), (0xd7, 64, .bswap64 d)]

/-- The imm of a byte swap is its width, 16, 32 or 64; width 64 is base64, the other widths base32, in both classes
(42_byteswap.md R182). -/
def Obligations.SwapWidths : Prop :=
  ∀ (e : Endian) (d : RegNum) (imm : Imm) (rest : List Slot), d.toNat ≤ 10 →
    (∀ p ∈ swapSelectors d, decode e ((⟨p.1, d, 0, 0, p.2.1⟩ : Fields).slot e :: rest) = .ok p.2.2 ∧
      p.2.2.group = if p.2.1 = 64 then .base64 else .base32) ∧
    (imm ≠ 16 → imm ≠ 32 → imm ≠ 64 → ∀ op ∈ [(0xd4 : BitVec 8), 0xdc, 0xd7], ∀ r off i,
      decode e ((⟨op, d, r, off, imm⟩ : Fields).slot e :: rest) ≠ .ok i)

/-- NEG exists only with K and uses neither imm nor src_reg; MOVSX exists only with X (40_arithmetic.md R110). -/
def Obligations.NegAndMovsxForms : Prop :=
  ∀ (e : Endian) (d r : RegNum) (off : Offset) (imm : Imm) (rest : List Slot),
    (d.toNat ≤ 10 → decode e ((⟨0x84, d, 0, 0, 0⟩ : Fields).slot e :: rest) = .ok (.negAlu d) ∧
      decode e ((⟨0x87, d, 0, 0, 0⟩ : Fields).slot e :: rest) = .ok (.negAlu64 d)) ∧
    (∀ op ∈ [(0x8c : BitVec 8), 0x8f], ∀ i, decode e ((⟨op, d, r, off, imm⟩ : Fields).slot e :: rest) ≠ .ok i) ∧
    (r ≠ 0 ∨ off ≠ 0 ∨ imm ≠ 0 → ∀ op ∈ [(0x84 : BitVec 8), 0x87], ∀ i,
      decode e ((⟨op, d, r, off, imm⟩ : Fields).slot e :: rest) ≠ .ok i) ∧
    (off ≠ 0 → ∀ op ∈ [(0xb4 : BitVec 8), 0xb7], ∀ i,
      decode e ((⟨op, d, r, off, imm⟩ : Fields).slot e :: rest) ≠ .ok i)

/-- A step of a Running state runs the instruction decoded at pc, and does nothing else (10_state.md R35). -/
def Obligations.StepRunsDecodedInstruction : Prop :=
  ∀ (s : State) (i : Instr), s.status = .running → s.pc < s.program.length → isSecondSlot s.program s.pc = false →
    decode s.cfg.endian (s.program.drop s.pc) = .ok i → step s = exec i s

/-- The faults of the fetch: the end of the program, a second slot (log 16), a slot that is no instruction
(60_exceptions.md R402 rows 1 and 2). -/
def Obligations.FetchFaults : Prop :=
  ∀ s : State, s.status = .running →
    (s.program.length ≤ s.pc → step s = .next { s with status := .faulted (.badJumpTarget s.pc) }) ∧
    (s.pc < s.program.length → isSecondSlot s.program s.pc = true →
      step s = .next { s with status := .faulted (.illegalInstruction s.pc) }) ∧
    (∀ x, s.pc < s.program.length → isSecondSlot s.program s.pc = false →
      decode s.cfg.endian (s.program.drop s.pc) = .error x →
      step s = .next { s with status := .faulted (.illegalInstruction s.pc) })

/-- No step leaves a state whose run has ended (10_state.md R30); the model's step answers its own fault there, which
is the model's choice (log 7). -/
def Obligations.EndedRunHasNoStep : Prop :=
  ∀ s : State, (s.status = .exited → step s = .fault .runExited) ∧
    (∀ f, s.status = .faulted f → step s = .fault (.runFaulted f)) ∧
    (∀ t, step s = .next t → s.status = .running)

/-- Taking a fault (60_exceptions.md R401): whatever instruction or fetch faults, a helper's fault included, the
registers, memory, call stack and pc are those before the step. Excluded is only the step that hands a packet load to
PacketAccess, which may itself set any status (48_legacy_packet.md R360). -/
def Obligations.FaultChangesOnlyStatus : Prop :=
  ∀ (s t : State) (f : FaultInfo),
    (∀ i, decode s.cfg.endian (s.program.drop s.pc) = .ok i → i.group = .packet → s.cfg.groups.packet = true →
      s.cfg.packetAccess = false) →
    step s = .next t → t.status = .faulted f → t = { s with status := .faulted f }

/-- PROGRAM and the parameters never change. -/
def Obligations.ProgramAndParametersFixed : Prop :=
  ∀ s t : State, step s = .next t → t.program = s.program ∧ t.cfg = s.cfg

/-- An instruction of an unsupported group faults exactly like an undefined opcode (the spec's own decision D2). -/
def Obligations.UnsupportedGroupIsIllegal : Prop :=
  (∀ (s : State) (i : Instr), s.status = .running → s.pc < s.program.length → isSecondSlot s.program s.pc = false →
    decode s.cfg.endian (s.program.drop s.pc) = .ok i →
    Groups.has s.cfg.groups i.group = false →
    step s = .next { s with status := .faulted (.illegalInstruction s.pc) }) ∧
  (∀ (s : State) (x : DecodeError), s.status = .running → s.pc < s.program.length →
    isSecondSlot s.program s.pc = false → decode s.cfg.endian (s.program.drop s.pc) = .error x →
    step s = .next { s with status := .faulted (.illegalInstruction s.pc) })

/-- A register field above 10 (30_encoding.md R70, the spec's own decision D16), or a written register field of 10
under R10_READ_ONLY (R70 and 10_state.md R23, the spec's own decision D5), is IllegalInstruction; that CMPXCHG's src
field is not such a field is the model's reading, log 15. -/
def Obligations.RegisterFieldChecks : Prop :=
  ∀ (s : State) (i : Instr),
    (i.wf = false → Raises i s (.illegalInstruction s.pc)) ∧
    (s.cfg.r10ReadOnly = true → i.written = some 10 → Raises i s (.illegalInstruction s.pc))

/-- An instruction that passes the static checks raises UninitRegister for the first register it reads that holds no
value; that it is the first in pseudocode order is the model's choice (log 17). -/
def Obligations.UninitRegister : Prop :=
  ∀ (s : State) (i : Instr) (r : RegNum), MayRun s i →
    i.reads.find? (fun q => (Regs.get s.regs q).isNone) = some r → Raises i s (.uninitRegister r)

/-- No instruction of the program's own writes more than one register, and every other register keeps its value. -/
def Obligations.OnlyWrittenRegisterChanges : Prop :=
  ∀ (s t : State) (i : Instr), exec i s = .next t → ¬ IsPlatforms i →
    i.writes.length ≤ 1 ∧ ∀ r, r ∉ i.writes → Regs.get t.regs r = Regs.get s.regs r

/-- Every instruction but the stores, the atomics, the helper calls and the packet loads leaves all of memory as it
was. -/
def Obligations.NonStoringFormsKeepMemory : Prop :=
  ∀ (s t : State) (i : Instr), exec i s = .next t → ¬ IsPlatforms i → i.storeSize = 0 → SameMemory s t

/-- The call stack changes only by CALL_LOCAL, which appends the slot after it, and by EXIT, which removes the newest
return slot and continues there (10_state.md R28). That a helper that ends the run leaves it is the model's choice
(log 9), and that a packet load leaves it the model's reading of R360 (log 12). -/
def Obligations.CallStackOnlyByCallAndExit : Prop :=
  ∀ (s t : State) (i : Instr), exec i s = .next t →
    t.callstack = s.callstack ∨
    ((∃ imm, i = .callLocal imm) ∧ t.callstack = s.callstack ++ [s.pc + 1] ∧ t.status = s.status) ∨
    (i = .exit ∧ s.callstack = t.callstack ++ [t.pc] ∧ t.status = s.status)

/-- A register that holds a value goes on holding one, except by a helper (10_state.md R24) or PacketAccess (log 20).
-/
def Obligations.RegistersKeepValues : Prop :=
  ∀ (s t : State) (i : Instr) (r : RegNum), exec i s = .next t → ¬ IsPlatforms i →
    Regs.get s.regs r ≠ none → Regs.get t.regs r ≠ none

/-- Under R10_READ_ONLY no instruction but a helper call or a packet load changes x[10]. -/
def Obligations.ReadOnlyR10 : Prop :=
  ∀ (s t : State) (i : Instr), s.cfg.r10ReadOnly = true → exec i s = .next t → ¬ IsPlatforms i →
    Regs.get t.regs 10 = Regs.get s.regs 10

/-- Which slots are second slots: the first slot is none; any other is one exactly when the slot before it has opcode
0x18 and is not itself one. -/
def Obligations.SecondSlotScan : Prop :=
  ∀ p : List Slot, isSecondSlot p 0 = false ∧
    ∀ (k : Nat) (before : Slot), k + 1 < p.length → p[k]? = some before →
      (isSecondSlot p (k + 1) = true ↔ before.b0 = 0x18 ∧ isSecondSlot p k = false)

/-- The state right after reset: pc 0, an empty call stack, Running, as the spec's start state says; every register 0
(log 3), no byte of memory listed and unlisted bytes 0 (log 5), no program (log 4), the helpers' private state 0 (log
11) and the parameters of log 2 are the model's choices. -/
def Obligations.ResetState : Prop :=
  State.reset.pc = 0 ∧ State.reset.callstack = [] ∧ State.reset.status = .running ∧
    (∀ r : RegNum, r.toNat ≤ 10 → Regs.get State.reset.regs r = some 0) ∧
    (∀ a, State.reset.mem.read a = 0) ∧ State.reset.program = [] ∧ State.reset.platform = 0 ∧
    State.reset.cfg.strictAlignment = true ∧ State.reset.cfg.r10ReadOnly = false ∧
    State.reset.cfg.helpers = [] ∧ State.reset.cfg.packetAccess = false ∧
    ∀ g, Groups.has State.reset.cfg.groups g = true ↔ g ≠ .packet

/-- The invariant holds at reset, and at the start state of every run whose INIT_MEM is canonical and within REGIONS.
-/
def Obligations.InvAtReset : Prop :=
  Inv State.reset ∧
  ∀ (cfg : Config) (program : List Slot) (regs : Regs) (mem : Memory) (platform : Nat), mem.wf = true →
    (∀ c ∈ mem, byteExists cfg.regions c.1 = true) → Inv (State.start cfg program regs mem platform)

/-- Every step keeps the invariant, from every state that has it. -/
def Obligations.StepKeepsInv : Prop :=
  ∀ s t : State, Inv s → step s = .next t → Inv t

/-- The spec's static predicate does what it is for: no run of a well-formed program raises IllegalInstruction or
BadJumpTarget (60_exceptions.md R418, which marks this as its own inference; the predicate's reading is log 19). -/
def Obligations.WellFormedProgramsDecode : Prop :=
  ∀ (cfg : Config) (program : List Slot) (regs : Regs) (mem : Memory) (platform : Nat) (s : State) (f : FaultInfo),
    programWellFormed cfg program = true → (cfg.groups.packet = false ∨ cfg.packetAccess = false) →
    (∀ kind id x m q g, (kind, id) ∈ cfg.helpers → Config.helper kind id cfg x m q = .faults g → ¬ staticFault g) →
    Reaches (State.start cfg program regs mem platform) s → s.status = .faulted f → ¬ staticFault f

/-- The 32-bit results of class ALU (40_arithmetic.md, 41_arithmetic2.md): a = x[d][31:0], b = imm or x[r][31:0]. -/
def Sys2Proof.Claims.alu32Table (d r : RegNum) (imm : Imm) (a b : Word) :
    List (Instr × Nat) :=
  [(.addAluK d imm, addN 32 (low a) imm.toNat), (.addAluX d r, addN 32 (low a) (low b)),
    (.subAluK d imm, subN 32 (low a) imm.toNat), (.subAluX d r, subN 32 (low a) (low b)),
    (.orAluK d imm, (low a) ||| imm.toNat), (.orAluX d r, (low a) ||| (low b)),
    (.andAluK d imm, (low a) &&& imm.toNat), (.andAluX d r, (low a) &&& (low b)),
    (.xorAluK d imm, (low a) ^^^ imm.toNat), (.xorAluX d r, (low a) ^^^ (low b))]

/-- ADD, SUB, OR, AND and XOR of class ALU: the 32-bit result, zero-extended, is the new x[d]; nothing else changes
but pc. -/
def Obligations.Alu32Results : Prop :=
  ∀ (s : State) (d r : RegNum) (imm : Imm) (a b : Word), Regs.get s.regs d = some a → Regs.get s.regs r = some b →
    ∀ p ∈ alu32Table d r imm a b, MayRun s p.1 → Completes p.1 s fun t => RegNumber s t d p.2 1

/-- The 64-bit results of class ALU64: a = x[d], b = sext_64(imm) or x[r]. -/
def Sys2Proof.Claims.alu64Table (d r : RegNum) (imm : Imm) (a b : Word) :
    List (Instr × Nat) :=
  [(.addAlu64K d imm, addN 64 a.toNat (sext imm)), (.addAlu64X d r, addN 64 a.toNat b.toNat),
    (.subAlu64K d imm, subN 64 a.toNat (sext imm)), (.subAlu64X d r, subN 64 a.toNat b.toNat),
    (.orAlu64K d imm, a.toNat ||| (sext imm)), (.orAlu64X d r, a.toNat ||| b.toNat),
    (.andAlu64K d imm, a.toNat &&& (sext imm)), (.andAlu64X d r, a.toNat &&& b.toNat),
    (.xorAlu64K d imm, a.toNat ^^^ (sext imm)), (.xorAlu64X d r, a.toNat ^^^ b.toNat)]

/-- ADD, SUB, OR, AND and XOR of class ALU64, with imm sign-extended. -/
def Obligations.Alu64Results : Prop :=
  ∀ (s : State) (d r : RegNum) (imm : Imm) (a b : Word), Regs.get s.regs d = some a → Regs.get s.regs r = some b →
    ∀ p ∈ alu64Table d r imm a b, MayRun s p.1 → Completes p.1 s fun t => RegNumber s t d p.2 1

/-- The 32-bit results of MUL, DIV, SDIV, MOD and SMOD. -/
def Sys2Proof.Claims.divmul32 (d r : RegNum) (imm : Imm) (a b : Word) :
    List (Instr × Nat) :=
  [(.mulAluK d imm, mulN 32 (low a) imm.toNat), (.mulAluX d r, mulN 32 (low a) (low b)),
    (.divAluK d imm, divN (low a) imm.toNat), (.divAluX d r, divN (low a) (low b)),
    (.sdivAluK d imm, sdivN 32 (low a) imm.toNat), (.sdivAluX d r, sdivN 32 (low a) (low b)),
    (.modAluK d imm, modN (low a) imm.toNat), (.modAluX d r, modN (low a) (low b)),
    (.smodAluK d imm, smodN 32 (low a) imm.toNat), (.smodAluX d r, smodN 32 (low a) (low b))]

/-- MUL, DIV, SDIV, MOD and SMOD of class ALU. -/
def Obligations.DivMul32Results : Prop :=
  ∀ (s : State) (d r : RegNum) (imm : Imm) (a b : Word), Regs.get s.regs d = some a → Regs.get s.regs r = some b →
    ∀ p ∈ divmul32 d r imm a b, MayRun s p.1 → Completes p.1 s fun t => RegNumber s t d p.2 1

/-- The 64-bit results of MUL, DIV, SDIV, MOD and SMOD. -/
def Sys2Proof.Claims.divmul64 (d r : RegNum) (imm : Imm) (a b : Word) :
    List (Instr × Nat) :=
  [(.mulAlu64K d imm, mulN 64 a.toNat (sext imm)), (.mulAlu64X d r, mulN 64 a.toNat b.toNat),
    (.divAlu64K d imm, divN a.toNat (sext imm)), (.divAlu64X d r, divN a.toNat b.toNat),
    (.sdivAlu64K d imm, sdivN 64 a.toNat (sext imm)), (.sdivAlu64X d r, sdivN 64 a.toNat b.toNat),
    (.modAlu64K d imm, modN a.toNat (sext imm)), (.modAlu64X d r, modN a.toNat b.toNat),
    (.smodAlu64K d imm, smodN 64 a.toNat (sext imm)), (.smodAlu64X d r, smodN 64 a.toNat b.toNat)]

/-- MUL, DIV, SDIV, MOD and SMOD of class ALU64, with imm sign-extended also where it is then read as unsigned. -/
def Obligations.DivMul64Results : Prop :=
  ∀ (s : State) (d r : RegNum) (imm : Imm) (a b : Word), Regs.get s.regs d = some a → Regs.get s.regs r = some b →
    ∀ p ∈ divmul64 d r imm a b, MayRun s p.1 → Completes p.1 s fun t => RegNumber s t d p.2 1

/-- The twelve shifts with their result, their first operand and the amount, b modulo 32 or 64. -/
def Sys2Proof.Claims.shifts (d r : RegNum) (imm : Imm) (a b : Word) :
    List (Instr × Nat × Nat × Nat) :=
  [(.lshAluK d imm, lshN 32 (low a) imm.toNat, low a, imm.toNat % 32),
    (.lshAluX d r, lshN 32 (low a) (low b), low a, (low b) % 32),
    (.rshAluK d imm, rshN 32 (low a) imm.toNat, low a, imm.toNat % 32),
    (.rshAluX d r, rshN 32 (low a) (low b), low a, (low b) % 32),
    (.arshAluK d imm, arshN 32 (low a) imm.toNat, low a, imm.toNat % 32),
    (.arshAluX d r, arshN 32 (low a) (low b), low a, (low b) % 32),
    (.lshAlu64K d imm, lshN 64 a.toNat (sext imm), a.toNat, (sext imm) % 64),
    (.lshAlu64X d r, lshN 64 a.toNat b.toNat, a.toNat, b.toNat % 64),
    (.rshAlu64K d imm, rshN 64 a.toNat (sext imm), a.toNat, (sext imm) % 64),
    (.rshAlu64X d r, rshN 64 a.toNat b.toNat, a.toNat, b.toNat % 64),
    (.arshAlu64K d imm, arshN 64 a.toNat (sext imm), a.toNat, (sext imm) % 64),
    (.arshAlu64X d r, arshN 64 a.toNat b.toNat, a.toNat, b.toNat % 64)]

/-- The shift amount is b & 31 in class ALU and b & 63 in class ALU64 for both K and X; LSH and RSH fill with zeros,
ARSH with copies of the sign bit of the N-bit operand; an amount of 0 leaves the N-bit value unchanged
(40_arithmetic.md R108). -/
def Obligations.ShiftResults : Prop :=
  ∀ (s : State) (d r : RegNum) (imm : Imm) (a b : Word), Regs.get s.regs d = some a → Regs.get s.regs r = some b →
    ∀ p ∈ shifts d r imm a b, MayRun s p.1 →
      Completes p.1 s (fun t => RegNumber s t d p.2.1 1) ∧ (p.2.2.2 = 0 → p.2.1 = p.2.2.1)

/-- What division and modulo by zero leave in x[d], with the condition under which the divisor is zero. -/
def Sys2Proof.Claims.zeroDivisor (d r : RegNum) (imm : Imm) (a b : Word) :
    List (Instr × Prop × Nat) :=
  [(.divAluK d imm, imm.toNat = 0, 0), (.divAluX d r, low b = 0, 0),
    (.divAlu64K d imm, imm.toNat = 0, 0), (.divAlu64X d r, b.toNat = 0, 0),
    (.sdivAluK d imm, imm.toNat = 0, 0), (.sdivAluX d r, low b = 0, 0),
    (.sdivAlu64K d imm, imm.toNat = 0, 0), (.sdivAlu64X d r, b.toNat = 0, 0),
    (.modAluK d imm, imm.toNat = 0, low a), (.modAluX d r, low b = 0, low a),
    (.modAlu64K d imm, imm.toNat = 0, a.toNat), (.modAlu64X d r, b.toNat = 0, a.toNat),
    (.smodAluK d imm, imm.toNat = 0, low a), (.smodAluX d r, low b = 0, low a),
    (.smodAlu64K d imm, imm.toNat = 0, a.toNat), (.smodAlu64X d r, b.toNat = 0, a.toNat)]

/-- Division by zero gives 0 and modulo by zero the dividend, in class ALU its low half; the divisor is zero when the
operand the operation uses is: in class ALU the low 32 bits (the spec's own inference of R105 for a register). -/
def Obligations.DivisionByZero : Prop :=
  ∀ (s : State) (d r : RegNum) (imm : Imm) (a b : Word), Regs.get s.regs d = some a → Regs.get s.regs r = some b →
    ∀ p ∈ zeroDivisor d r imm a b, MayRun s p.1 → p.2.1 → Completes p.1 s fun t => RegNumber s t d p.2.2 1

/-- The most negative number divided by -1. -/
def Sys2Proof.Claims.signedOverflow (d r : RegNum) (imm : Imm) (a b : Word) :
    List (Instr × Prop × Nat) :=
  [(.sdivAluK d imm, low a = 2 ^ 31 ∧ imm.toNat = 2 ^ 32 - 1, 2 ^ 31),
    (.sdivAluX d r, low a = 2 ^ 31 ∧ low b = 2 ^ 32 - 1, 2 ^ 31),
    (.sdivAlu64K d imm, a.toNat = 2 ^ 63 ∧ imm.toNat = 2 ^ 32 - 1, 2 ^ 63),
    (.sdivAlu64X d r, a.toNat = 2 ^ 63 ∧ b.toNat = 2 ^ 64 - 1, 2 ^ 63),
    (.smodAluK d imm, low a = 2 ^ 31 ∧ imm.toNat = 2 ^ 32 - 1, 0),
    (.smodAluX d r, low a = 2 ^ 31 ∧ low b = 2 ^ 32 - 1, 0),
    (.smodAlu64K d imm, a.toNat = 2 ^ 63 ∧ imm.toNat = 2 ^ 32 - 1, 0),
    (.smodAlu64X d r, a.toNat = 2 ^ 63 ∧ b.toNat = 2 ^ 64 - 1, 0)]

/-- The most negative number divided by -1 wraps to itself, with remainder 0 (the spec's own decision D18). -/
def Obligations.SignedOverflow : Prop :=
  ∀ (s : State) (d r : RegNum) (imm : Imm) (a b : Word), Regs.get s.regs d = some a → Regs.get s.regs r = some b →
    ∀ p ∈ signedOverflow d r imm a b, MayRun s p.1 → p.2.1 → Completes p.1 s fun t => RegNumber s t d p.2.2 1

/-- The four signed remainders with their width, dividend and divisor. -/
def Sys2Proof.Claims.signedRemainders (d r : RegNum) (imm : Imm) (a b : Word) :
    List (Instr × Nat × Nat × Nat) :=
  [(.smodAluK d imm, 32, low a, imm.toNat), (.smodAluX d r, 32, low a, low b),
    (.smodAlu64K d imm, 64, a.toNat, sext imm), (.smodAlu64X d r, 64, a.toNat, b.toNat)]

/-- The signed remainder is zero or has the sign of the dividend, is smaller than the divisor, and completes some
multiple of the divisor to the dividend (the spec's own inference from the truncated quotient, 40_arithmetic.md R106).
-/
def Obligations.TruncatedRemainder : Prop :=
  ∀ (s : State) (d r : RegNum) (imm : Imm) (a b : Word), Regs.get s.regs d = some a → Regs.get s.regs r = some b →
    ∀ p ∈ signedRemainders d r imm a b, MayRun s p.1 → p.2.2.2 ≠ 0 →
      ∃ v < 2 ^ p.2.1, Completes p.1 s (fun t => RegNumber s t d v 1) ∧
        (signed p.2.1 v = 0 ∨ (0 < signed p.2.1 v ↔ 0 < signed p.2.1 p.2.2.1)) ∧
        (signed p.2.1 v).natAbs < (signed p.2.1 p.2.2.2).natAbs ∧
        ∃ q : Int, signed p.2.1 p.2.2.1 = signed p.2.1 p.2.2.2 * q + signed p.2.1 v

/-- No arithmetic condition raises a fault: an instruction of class ALU or ALU64 that passes the static checks and
reads only registers that hold values completes, whatever the values (60_exceptions.md R414). -/
def Obligations.NoArithmeticFault : Prop :=
  ∀ (s : State) (i : Instr), (i.fields.opcode.extractLsb' 0 3 = 4 ∨ i.fields.opcode.extractLsb' 0 3 = 7) →
    MayRun s i → (∀ r ∈ i.reads, Regs.get s.regs r ≠ none) →
    Completes i s fun t => t.status = s.status ∧ t.pc = s.pc + 1

/-- The moves of an immediate. -/
def Sys2Proof.Claims.movesK (d : RegNum) (imm : Imm) :
    List (Instr × Nat) :=
  [(.movAluK d imm, imm.toNat), (.movAlu64K d imm, sext imm)]

/-- The moves of a register, plain and sign-extending. -/
def Sys2Proof.Claims.movesX (d r : RegNum) (b : Word) :
    List (Instr × Nat) :=
  [(.movAluX d r, low b), (.movAlu64X d r, b.toNat),
    (.movsx8AluX d r, sextFrom 8 32 b.toNat), (.movsx16AluX d r, sextFrom 16 32 b.toNat),
    (.movsx8Alu64X d r, sextFrom 8 64 b.toNat), (.movsx16Alu64X d r, sextFrom 16 64 b.toNat),
    (.movsx32Alu64X d r, sextFrom 32 64 b.toNat)]

/-- MOV and MOVSX: x[d] is written and not read, so it need hold no value. -/
def Obligations.MoveResults : Prop :=
  (∀ (s : State) (d : RegNum) (imm : Imm), ∀ p ∈ movesK d imm, MayRun s p.1 →
    Completes p.1 s fun t => RegNumber s t d p.2 1) ∧
  (∀ (s : State) (d r : RegNum) (b : Word), Regs.get s.regs r = some b → ∀ p ∈ movesX d r b, MayRun s p.1 →
    Completes p.1 s fun t => RegNumber s t d p.2 1)

/-- NEG of both classes. -/
def Obligations.NegationResults : Prop :=
  ∀ (s : State) (d : RegNum) (a : Word), Regs.get s.regs d = some a →
    (MayRun s (.negAlu d) → Completes (.negAlu d) s fun t => RegNumber s t d (wrap 32 (-(low a : Int))) 1) ∧
    (MayRun s (.negAlu64 d) → Completes (.negAlu64 d) s fun t => RegNumber s t d (wrap 64 (-(a.toNat : Int))) 1)

/-- Class ALU but for the byte swaps: the upper halves of the registers do not enter the outcome, and the upper half
of the written register is zero (40_arithmetic.md R102). -/
def Obligations.UpperHalvesIgnored : Prop :=
  ∀ (s : State) (x : Regs) (i : Instr), s.status = .running →
    i.fields.opcode.extractLsb' 0 3 = 4 → i.fields.opcode.extractLsb' 4 4 ≠ 0xd →
    (∀ r, (Regs.get s.regs r).map low = (Regs.get x r).map low) →
    ∃ t u, exec i s = .next t ∧ exec i { s with regs := x } = .next u ∧ t.status = u.status ∧ t.pc = u.pc ∧
      t.mem = u.mem ∧
      (t.status = .running → i.writes ≠ [] ∧ ∀ r ∈ i.writes, Regs.get t.regs r = Regs.get u.regs r ∧
        ∃ v : Word, Regs.get t.regs r = some v ∧ v.toNat < 2 ^ 32)

/-- The byte swaps with their width in bytes and whether they reverse on this host (42_byteswap.md R184). -/
def Sys2Proof.Claims.swaps (d : RegNum) (e : Endian) :
    List (Instr × Nat × Bool) :=
  [(.endToLe16 d, 2, e == .big), (.endToLe32 d, 4, e == .big), (.endToLe64 d, 8, e == .big),
    (.endToBe16 d, 2, e == .little), (.endToBe32 d, 4, e == .little), (.endToBe64 d, 8, e == .little),
    (.bswap16 d, 2, true), (.bswap32 d, 4, true), (.bswap64 d, 8, true)]

/-- The nine byte swaps: the low bytes of x[d] kept or reversed, zero-extended (the truncation is the spec's own
decision D19). -/
def Obligations.ByteSwapResults : Prop :=
  ∀ (s : State) (d : RegNum) (a : Word), Regs.get s.regs d = some a →
    ∀ p ∈ swaps d s.cfg.endian, MayRun s p.1 → Completes p.1 s fun t => ∃ v, RegResult s t d v 1 ∧
      (p.2.2 = true → Reverses p.2.1 a v) ∧ (p.2.2 = false → v.toNat = a.toNat % 2 ^ (8 * p.2.1))

/-- The unconditional jumps with their distance. -/
def Sys2Proof.Claims.jumps (off : Offset) (imm : Imm) :
    List (Instr × Int) :=
  [(.jaJmp off, off.toInt), (.jaJmp32 imm, imm.toInt)]

/-- JA of both classes. -/
def Obligations.UnconditionalJumps : Prop :=
  ∀ (s : State) (off : Offset) (imm : Imm), ∀ p ∈ jumps off imm, MayRun s p.1 →
    (ValidTarget s (s.pc + 1 + p.2) → exec p.1 s = .next { s with pc := (s.pc + 1 + p.2).toNat }) ∧
    (¬ ValidTarget s (s.pc + 1 + p.2) → Raises p.1 s (.badJumpTarget (s.pc + 1 + p.2)))

/-- The conditional jumps with the condition under which each is taken (44_jump_cond.md R220). -/
def Sys2Proof.Claims.condJumps (d r : RegNum) (off : Offset) (imm : Imm) (a b : Word) :
    List (Instr × Prop) :=
  [(.jeqJmpK d off imm, a.toNat = sext imm), (.jeqJmpX d r off, a.toNat = b.toNat),
    (.jeqJmp32K d off imm, low a = imm.toNat), (.jeqJmp32X d r off, low a = low b),
    (.jgtJmpK d off imm, a.toNat > sext imm), (.jgtJmpX d r off, a.toNat > b.toNat),
    (.jgtJmp32K d off imm, low a > imm.toNat), (.jgtJmp32X d r off, low a > low b),
    (.jgeJmpK d off imm, a.toNat ≥ sext imm), (.jgeJmpX d r off, a.toNat ≥ b.toNat),
    (.jgeJmp32K d off imm, low a ≥ imm.toNat), (.jgeJmp32X d r off, low a ≥ low b),
    (.jsetJmpK d off imm, a.toNat &&& sext imm ≠ 0), (.jsetJmpX d r off, a.toNat &&& b.toNat ≠ 0),
    (.jsetJmp32K d off imm, low a &&& imm.toNat ≠ 0), (.jsetJmp32X d r off, low a &&& low b ≠ 0),
    (.jneJmpK d off imm, a.toNat ≠ sext imm), (.jneJmpX d r off, a.toNat ≠ b.toNat),
    (.jneJmp32K d off imm, low a ≠ imm.toNat), (.jneJmp32X d r off, low a ≠ low b),
    (.jsgtJmpK d off imm, signed 64 a.toNat > signed 64 (sext imm)),
    (.jsgtJmpX d r off, signed 64 a.toNat > signed 64 b.toNat),
    (.jsgtJmp32K d off imm, signed 32 (low a) > signed 32 imm.toNat),
    (.jsgtJmp32X d r off, signed 32 (low a) > signed 32 (low b)),
    (.jsgeJmpK d off imm, signed 64 a.toNat ≥ signed 64 (sext imm)),
    (.jsgeJmpX d r off, signed 64 a.toNat ≥ signed 64 b.toNat),
    (.jsgeJmp32K d off imm, signed 32 (low a) ≥ signed 32 imm.toNat),
    (.jsgeJmp32X d r off, signed 32 (low a) ≥ signed 32 (low b)),
    (.jltJmpK d off imm, a.toNat < sext imm), (.jltJmpX d r off, a.toNat < b.toNat),
    (.jltJmp32K d off imm, low a < imm.toNat), (.jltJmp32X d r off, low a < low b),
    (.jleJmpK d off imm, a.toNat ≤ sext imm), (.jleJmpX d r off, a.toNat ≤ b.toNat),
    (.jleJmp32K d off imm, low a ≤ imm.toNat), (.jleJmp32X d r off, low a ≤ low b),
    (.jsltJmpK d off imm, signed 64 a.toNat < signed 64 (sext imm)),
    (.jsltJmpX d r off, signed 64 a.toNat < signed 64 b.toNat),
    (.jsltJmp32K d off imm, signed 32 (low a) < signed 32 imm.toNat),
    (.jsltJmp32X d r off, signed 32 (low a) < signed 32 (low b)),
    (.jsleJmpK d off imm, signed 64 a.toNat ≤ signed 64 (sext imm)),
    (.jsleJmpX d r off, signed 64 a.toNat ≤ signed 64 b.toNat),
    (.jsleJmp32K d off imm, signed 32 (low a) ≤ signed 32 imm.toNat),
    (.jsleJmp32X d r off, signed 32 (low a) ≤ signed 32 (low b))]

/-- The 44 conditional jumps: class JMP compares 64-bit operands, with imm sign-extended for the unsigned conditions
too, class JMP32 the low halves with the 32 bits of imm (44_jump_cond.md R220). That a taken jump without a valid
target is BadJumpTarget is 43_jump.md R201, the spec's own decision D20. -/
def Obligations.ConditionalJumps : Prop :=
  ∀ (s : State) (d r : RegNum) (off : Offset) (imm : Imm) (a b : Word), Regs.get s.regs d = some a →
    Regs.get s.regs r = some b → ∀ p ∈ condJumps d r off imm a b, MayRun s p.1 → Branches p.1 s p.2 off

/-- CALL_LOCAL: the depth is checked before the target; the return slot is pc + 1; no register and no memory changes
(the spec's own decision D9). -/
def Obligations.LocalCall : Prop :=
  ∀ (s : State) (imm : Imm), MayRun s (.callLocal imm) →
    (s.callstack.length < s.cfg.maxCallDepth → ValidTarget s (s.pc + 1 + imm.toInt) → exec (.callLocal imm) s =
      .next { s with pc := (s.pc + 1 + imm.toInt).toNat, callstack := s.callstack ++ [s.pc + 1] }) ∧
    (s.cfg.maxCallDepth ≤ s.callstack.length → Raises (.callLocal imm) s (.callDepthExceeded s.pc)) ∧
    (s.callstack.length < s.cfg.maxCallDepth → ¬ ValidTarget s (s.pc + 1 + imm.toInt) →
      Raises (.callLocal imm) s (.badJumpTarget (s.pc + 1 + imm.toInt)))

/-- EXIT: back to the newest return slot, or the end of the run, with pc left at the EXIT instruction (the spec's own
decision D22). -/
def Obligations.ExitReturnsOrEnds : Prop :=
  ∀ s : State, MayRun s .exit →
    (s.callstack = [] → exec .exit s = .next { s with status := .exited }) ∧
    (∀ cs k, s.callstack = cs ++ [k] → exec .exit s = .next { s with callstack := cs, pc := k })

/-- An EXIT within a program-local function returns to the slot after its call, with the caller's call stack, whatever
the function did to the registers and memory in between. -/
def Obligations.CallThenExit : Prop :=
  ∀ (s t u : State) (imm : Imm), s.status = .running → exec (.callLocal imm) s = .next t → t.status = .running →
    u.callstack = t.callstack → MayRun u .exit →
    t.regs = s.regs ∧ SameMemory s t ∧
      Completes .exit u fun w => w.pc = s.pc + 1 ∧ w.callstack = s.callstack ∧ w.regs = u.regs ∧ SameMemory u w

/-- The two helper calls with the kind they name. -/
def Sys2Proof.Claims.helperCalls (imm : Imm) :
    List (Instr × HelperKind) :=
  [(.callHelper imm, .staticId), (.callHelperBtf imm, .btfId)]

/-- The helper calls: what the platform's helper answers, whatever it is. Registers and private state are the
helper's; memory changes only where it is writable (log 10); a helper that ends the run chooses the pc it ends with
(log 9); a helper the platform does not supply is UnknownHelper. Config.helper has no body, so the statement holds of
every helper (log 8). -/
def Obligations.HelperCalls : Prop :=
  ∀ (s : State) (imm : Imm), s.mem.wf = true → ∀ p ∈ helperCalls imm, MayRun s p.1 →
    ((p.2, imm) ∉ s.cfg.helpers → Raises p.1 s (.unknownHelper p.2 imm)) ∧
    ((p.2, imm) ∈ s.cfg.helpers →
      match Config.helper p.2 imm s.cfg s.regs s.mem s.platform with
      | .returns regs ws q => Completes p.1 s fun t => t.regs = regs ∧ t.platform = q ∧ t.pc = s.pc + 1 ∧
          t.status = s.status ∧ t.callstack = s.callstack ∧ t.program = s.program ∧ t.cfg = s.cfg ∧
          (∀ a, InRegion s .store a 1 → t.mem.read a = written ws s a) ∧
          ∀ a, ¬ (∃ r ∈ s.cfg.regions, r.writable = true ∧ r.base ≤ a ∧ a < r.base + r.length) →
            t.mem.read a = s.mem.read a
      | .ends regs ws q pc => Completes p.1 s fun t => t.regs = regs ∧ t.platform = q ∧ t.pc = pc ∧
          t.status = .exited ∧ t.callstack = s.callstack ∧ t.program = s.program ∧ t.cfg = s.cfg ∧
          (∀ a, InRegion s .store a 1 → t.mem.read a = written ws s a) ∧
          ∀ a, ¬ (∃ r ∈ s.cfg.regions, r.writable = true ∧ r.base ≤ a ∧ a < r.base + r.length) →
            t.mem.read a = s.mem.read a
      | .faults f => Raises p.1 s f)

/-- The effective address is the sum of the base and the sign-extended offset modulo 2^64 (the spec's own decision
D24). -/
def Obligations.EffectiveAddress : Prop :=
  ∀ (base : Word) (off : Offset), (effAddr base off).toNat = wrap 64 (base.toNat + off.toInt)

/-- The seven loads with their size and whether they sign-extend. -/
def Sys2Proof.Claims.loads (d r : RegNum) (off : Offset) :
    List (Instr × Nat × Bool) :=
  [(.ldxMemB d r off, 1, false), (.ldxMemH d r off, 2, false), (.ldxMemW d r off, 4, false),
    (.ldxMemDw d r off, 8, false), (.ldxMemsxB d r off, 1, true), (.ldxMemsxH d r off, 2, true),
    (.ldxMemsxW d r off, 4, true)]

/-- A load writes all 64 bits of x[d]: MEM zero-extends and MEMSX sign-extends what memory holds at the effective
address in host byte order (45_load_store.md R272). x[d] need hold no value. -/
def Obligations.LoadResults : Prop :=
  ∀ (s : State) (d r : RegNum) (off : Offset) (base : Word), Regs.get s.regs r = some base →
    ∀ p ∈ loads d r off, MayRun s p.1 → AccessOk s .load (effAddr base off).toNat p.2.1 →
      Completes p.1 s fun t => ∃ v, MemHolds s (effAddr base off).toNat p.2.1 v ∧
        RegNumber s t d (if p.2.2 then sextFrom (8 * p.2.1) 64 v.toNat else v.toNat) 1

/-- The eight stores with their size and the value whose low bytes they store. -/
def Sys2Proof.Claims.stores (d r : RegNum) (off : Offset) (imm : Imm) (b : Word) :
    List (Instr × Nat × Word) :=
  [(.stMemB d off imm, 1, BitVec.ofNat 64 (sext imm)), (.stMemH d off imm, 2, BitVec.ofNat 64 (sext imm)),
    (.stMemW d off imm, 4, BitVec.ofNat 64 (sext imm)), (.stMemDw d off imm, 8, BitVec.ofNat 64 (sext imm)),
    (.stxMemB d r off, 1, b), (.stxMemH d r off, 2, b), (.stxMemW d r off, 4, b), (.stxMemDw d r off, 8, b)]

/-- A store writes the low bytes of imm, sign-extended for DW, or of x[r], in host byte order, at the effective
address, and no other byte; memory is in its canonical form, which StepKeepsInv says every step keeps (the spec's own
decision D25). -/
def Obligations.StoreResults : Prop :=
  ∀ (s : State) (d r : RegNum) (off : Offset) (imm : Imm) (base b : Word), s.mem.wf = true →
    Regs.get s.regs d = some base → Regs.get s.regs r = some b →
    ∀ p ∈ stores d r off imm b, MayRun s p.1 → AccessOk s .store (effAddr base off).toNat p.2.1 →
      Completes p.1 s fun t => StoreResult s t (effAddr base off).toNat p.2.1 p.2.2

/-- A register store and the loads of its size from the same address. -/
def Sys2Proof.Claims.storeLoadPairs (d r q : RegNum) (off : Offset) :
    List (Instr × Instr × Nat) :=
  [(.stxMemB d r off, .ldxMemB q d off, 1), (.stxMemH d r off, .ldxMemH q d off, 2),
    (.stxMemW d r off, .ldxMemW q d off, 4), (.stxMemDw d r off, .ldxMemDw q d off, 8)]

/-- A load right after a store of the same size to the same bytes returns what was stored (program order of one
program alone, log 18). -/
def Obligations.StoreThenLoad : Prop :=
  ∀ (s t : State) (d r q : RegNum) (off : Offset) (base b : Word), s.mem.wf = true → s.status = .running →
    Regs.get s.regs d = some base → Regs.get s.regs r = some b →
    ∀ p ∈ storeLoadPairs d r q off, exec p.1 s = .next t → t.status = .running → MayRun t p.2.1 →
      AccessOk t .load (effAddr base off).toNat p.2.2 →
      Completes p.2.1 t fun u => RegNumber t u q (b.toNat % 2 ^ (8 * p.2.2)) 1

/-- Every instruction that accesses memory, with the kind and the size of its access, its base register, and the
registers it reads beside the base: none for a load, which only writes x[d], and for ST; x[r] for STX and the atomics;
also x[0] for CMPXCHG (45_load_store.md R271-R273; 46_atomic.md R302). -/
def Sys2Proof.Claims.accesses (d r : RegNum) (off : Offset) (imm : Imm) :
    List (Instr × AccessKind × Nat × RegNum × List RegNum) :=
  [(.ldxMemB d r off, .load, 1, r, []), (.ldxMemH d r off, .load, 2, r, []),
    (.ldxMemW d r off, .load, 4, r, []), (.ldxMemDw d r off, .load, 8, r, []),
    (.ldxMemsxB d r off, .load, 1, r, []), (.ldxMemsxH d r off, .load, 2, r, []),
    (.ldxMemsxW d r off, .load, 4, r, []), (.stMemB d off imm, .store, 1, d, []),
    (.stMemH d off imm, .store, 2, d, []), (.stMemW d off imm, .store, 4, d, []),
    (.stMemDw d off imm, .store, 8, d, []), (.stxMemB d r off, .store, 1, d, [r]),
    (.stxMemH d r off, .store, 2, d, [r]), (.stxMemW d r off, .store, 4, d, [r]),
    (.stxMemDw d r off, .store, 8, d, [r]), (.atomicAddW d r off, .atomic, 4, d, [r]),
    (.atomicFetchAddW d r off, .atomic, 4, d, [r]), (.atomicOrW d r off, .atomic, 4, d, [r]),
    (.atomicFetchOrW d r off, .atomic, 4, d, [r]), (.atomicAndW d r off, .atomic, 4, d, [r]),
    (.atomicFetchAndW d r off, .atomic, 4, d, [r]), (.atomicXorW d r off, .atomic, 4, d, [r]),
    (.atomicFetchXorW d r off, .atomic, 4, d, [r]), (.atomicXchgW d r off, .atomic, 4, d, [r]),
    (.atomicCmpxchgW d r off, .atomic, 4, d, [r, 0]), (.atomicAddDw d r off, .atomic, 8, d, [r]),
    (.atomicFetchAddDw d r off, .atomic, 8, d, [r]), (.atomicOrDw d r off, .atomic, 8, d, [r]),
    (.atomicFetchOrDw d r off, .atomic, 8, d, [r]), (.atomicAndDw d r off, .atomic, 8, d, [r]),
    (.atomicFetchAndDw d r off, .atomic, 8, d, [r]), (.atomicXorDw d r off, .atomic, 8, d, [r]),
    (.atomicFetchXorDw d r off, .atomic, 8, d, [r]), (.atomicXchgDw d r off, .atomic, 8, d, [r]),
    (.atomicCmpxchgDw d r off, .atomic, 8, d, [r, 0])]

/-- An access that no single region with the needed permission allows, or that passes 2^64 - 1, is MemFault; an
allowed one that is misaligned is Misaligned if alignment is strict or the access atomic (the spec's own decisions D10
and D12). Only the registers that the instruction reads need hold values. -/
def Obligations.AccessFaults : Prop :=
  ∀ (s : State) (d r : RegNum) (off : Offset) (imm : Imm) (base : Word), ∀ p ∈ accesses d r off imm,
    Regs.get s.regs p.2.2.2.1 = some base → (∀ q ∈ p.2.2.2.2, Regs.get s.regs q ≠ none) → MayRun s p.1 →
    (¬ InRegion s p.2.1 (effAddr base off).toNat p.2.2.1 → Raises p.1 s (.memFault (effAddr base off))) ∧
    (InRegion s p.2.1 (effAddr base off).toNat p.2.2.1 → ¬ AlignedFor s p.2.1 (effAddr base off).toNat p.2.2.1 →
      Raises p.1 s (.misaligned (effAddr base off)))

/-- The atomics without FETCH with their size and the new value in memory for an old value. -/
def Sys2Proof.Claims.atomicUpdates (d r : RegNum) (off : Offset) (old b : Word) :
    List (Instr × Nat × Nat) :=
  [(.atomicAddW d r off, 4, addN 32 old.toNat (low b)), (.atomicAddDw d r off, 8, addN 64 old.toNat b.toNat),
    (.atomicOrW d r off, 4, old.toNat ||| (low b)), (.atomicOrDw d r off, 8, old.toNat ||| b.toNat),
    (.atomicAndW d r off, 4, old.toNat &&& (low b)), (.atomicAndDw d r off, 8, old.toNat &&& b.toNat),
    (.atomicXorW d r off, 4, old.toNat ^^^ (low b)), (.atomicXorDw d r off, 8, old.toNat ^^^ b.toNat)]

/-- The atomics without FETCH: memory is updated, no register is written. -/
def Obligations.AtomicUpdates : Prop :=
  ∀ (s : State) (d r : RegNum) (off : Offset) (base b : Word), s.mem.wf = true →
    Regs.get s.regs d = some base → Regs.get s.regs r = some b →
    ∀ old, ∀ p ∈ atomicUpdates d r off old b, MemHolds s (effAddr base off).toNat p.2.1 old → MayRun s p.1 →
      AccessOk s .atomic (effAddr base off).toNat p.2.1 →
      Completes p.1 s fun t => p.2.2 < 2 ^ (8 * p.2.1) ∧
        StoreResult s t (effAddr base off).toNat p.2.1 (BitVec.ofNat 64 p.2.2)

/-- The atomics with FETCH and the exchanges. -/
def Sys2Proof.Claims.atomicFetches (d r : RegNum) (off : Offset) (old b : Word) :
    List (Instr × Nat × Nat) :=
  [(.atomicFetchAddW d r off, 4, addN 32 old.toNat (low b)), (.atomicFetchAddDw d r off, 8, addN 64 old.toNat b.toNat),
    (.atomicFetchOrW d r off, 4, old.toNat ||| (low b)), (.atomicFetchOrDw d r off, 8, old.toNat ||| b.toNat),
    (.atomicFetchAndW d r off, 4, old.toNat &&& (low b)), (.atomicFetchAndDw d r off, 8, old.toNat &&& b.toNat),
    (.atomicFetchXorW d r off, 4, old.toNat ^^^ (low b)), (.atomicFetchXorDw d r off, 8, old.toNat ^^^ b.toNat),
    (.atomicXchgW d r off, 4, low b), (.atomicXchgDw d r off, 8, b.toNat)]

/-- The atomics with FETCH and the exchanges: x[r] receives the old value, zero-extended (the spec's own decision
D26); memory is updated from the old x[r], also when r = d. -/
def Obligations.AtomicFetches : Prop :=
  ∀ (s : State) (d r : RegNum) (off : Offset) (base b : Word), s.mem.wf = true →
    Regs.get s.regs d = some base → Regs.get s.regs r = some b →
    ∀ old, ∀ p ∈ atomicFetches d r off old b, MemHolds s (effAddr base off).toNat p.2.1 old → MayRun s p.1 →
      AccessOk s .atomic (effAddr base off).toNat p.2.1 →
      Completes p.1 s fun t => p.2.2 < 2 ^ (8 * p.2.1) ∧
        StoresAt s t (effAddr base off).toNat p.2.1 (BitVec.ofNat 64 p.2.2) ∧ Regs.get t.regs r = some old ∧
        (∀ q, q ≠ r → Regs.get t.regs q = Regs.get s.regs q) ∧ t.pc = s.pc + 1 ∧ SameRest s t

/-- The two compare and exchange forms with their size. -/
def Sys2Proof.Claims.exchanges (d r : RegNum) (off : Offset) :
    List (Instr × Nat) :=
  [(.atomicCmpxchgW d r off, 4), (.atomicCmpxchgDw d r off, 8)]

/-- CMPXCHG: memory becomes x[r] only if it equals the low bytes of x[0]; x[0] receives the old value, zero-extended,
in either case, and is the only register written, also when d or r is 0. -/
def Obligations.CompareExchange : Prop :=
  ∀ (s : State) (d r : RegNum) (off : Offset) (base b e : Word), s.mem.wf = true →
    Regs.get s.regs d = some base → Regs.get s.regs r = some b → Regs.get s.regs 0 = some e →
    ∀ old, ∀ p ∈ exchanges d r off, MemHolds s (effAddr base off).toNat p.2 old → MayRun s p.1 →
      AccessOk s .atomic (effAddr base off).toNat p.2 →
      Completes p.1 s fun t => Regs.get t.regs 0 = some old ∧
        (∀ q, q ≠ 0 → Regs.get t.regs q = Regs.get s.regs q) ∧ t.pc = s.pc + 1 ∧ SameRest s t ∧
        (old.toNat = e.toNat % 2 ^ (8 * p.2) → StoresAt s t (effAddr base off).toNat p.2 b) ∧
        (old.toNat ≠ e.toNat % 2 ^ (8 * p.2) → SameMemory s t)

/-- LD_IMM64: both halves are zero-extended (the spec's own inference, 90_conflicts.md C9), and pc passes both slots.
-/
def Obligations.LoadImm64 : Prop :=
  ∀ (s : State) (d : RegNum) (imm nextImm : Imm), MayRun s (.ldImm64 d imm nextImm) →
    Completes (.ldImm64 d imm nextImm) s fun t => RegNumber s t d (nextImm.toNat * 2 ^ 32 + imm.toNat) 2

/-- The six loads that ask a platform function, with their subtype and its answer (47_imm64.md R343, R346, R347). -/
def Sys2Proof.Claims.platformLoads (s : State) (d : RegNum) (imm nextImm : Imm) :
    List (Instr × BitVec 4 × Option Word) :=
  [(.ldMapByFd d imm, 1, s.cfg.mapByFd.lookup imm),
    (.ldMapValByFd d imm nextImm, 2, (s.cfg.mapByFd.lookup imm).bind fun m =>
      (s.cfg.mapVal.lookup m).map fun v => BitVec.ofNat 64 (v.toNat + nextImm.toNat)),
    (.ldVarAddr d imm, 3, s.cfg.varAddr.lookup imm),
    (.ldCodeAddr d imm, 4, s.cfg.codeAddr.lookup (s.pc, imm.toInt)),
    (.ldMapByIdx d imm, 5, s.cfg.mapByIdx.lookup imm),
    (.ldMapValByIdx d imm nextImm, 6, (s.cfg.mapByIdx.lookup imm).bind fun m =>
      (s.cfg.mapVal.lookup m).map fun v => BitVec.ofNat 64 (v.toNat + nextImm.toNat))]

/-- The six immediate loads that ask the platform, or PlatformRefused (the spec's own decisions D27 to D29). The
platform functions are finite association lists whose first entry for a key counts, which is the model's choice (log
14). -/
def Obligations.PlatformLoads : Prop :=
  ∀ (s : State) (d : RegNum) (imm nextImm : Imm), ∀ p ∈ platformLoads s d imm nextImm, MayRun s p.1 →
    (∀ v, p.2.2 = some v → Completes p.1 s fun t => RegResult s t d v 2) ∧
    (p.2.2 = none → Raises p.1 s (.platformRefused p.2.1 imm))

/-- The six packet loads with their mode, size and the register value they hand over: none for ABS, which reads no
register (48_legacy_packet.md R360). -/
def Sys2Proof.Claims.packetLoads (r : RegNum) (imm : Imm) (v : Option Word) :
    List (Instr × PacketMode × Nat × Option Word) :=
  [(.ldAbsW imm, .abs, 4, none), (.ldAbsH imm, .abs, 2, none), (.ldAbsB imm, .abs, 1, none),
    (.ldIndW r imm, .ind, 4, v), (.ldIndH r imm, .ind, 2, v), (.ldIndB r imm, .ind, 1, v)]

/-- The legacy packet loads: registers, memory, pc and status are what PacketAccess answers, or Unsupported where the
platform supplies none (the spec's own decision D30). Config.packetResult has no body, so the statement holds of every
platform; that only bytes of REGIONS may change and the call stack and private state stay is the model's (log 12), as
are that the answered registers may hold no value (log 20) and that IND reads its register first (log 13). ABS reads
no register. -/
def Obligations.PacketLoads : Prop :=
  ∀ (s : State) (r : RegNum) (imm : Imm), s.mem.wf = true → ∀ p ∈ packetLoads r imm (Regs.get s.regs r),
    (p.2.1 = .ind → Regs.get s.regs r ≠ none) → MayRun s p.1 →
    (s.cfg.packetAccess = false → Raises p.1 s (.unsupported s.pc)) ∧
    (s.cfg.packetAccess = true → ∀ o, o = Config.packetResult p.2.1 p.2.2.1 p.2.2.2 imm s.cfg s.regs s.mem s.pc s.status
        s.callstack s.program s.platform →
      Completes p.1 s fun t => t.regs = o.regs ∧ t.pc = o.pc ∧ t.status = o.status ∧ t.callstack = s.callstack ∧
        t.program = s.program ∧ t.platform = s.platform ∧ t.cfg = s.cfg ∧
        ∀ a, t.mem.read a = if byteExists s.cfg.regions a = true then written o.writes s a else s.mem.read a)

/-- A second slot reached as an instruction is always IllegalInstruction (the spec's own decision D23). -/
def Obligations.SecondSlotIsIllegal : Prop :=
  ∀ (s : State) (imm : Imm), Raises (.wideSecondSlot imm) s (.illegalInstruction s.pc)
end

