-- ==== Sys2Proof/Laws/Arith.lean ====
section
/-! SUPPORT. The arithmetic operations as the bit-vector operations they are: the pseudocode's exact integers,
narrowed, agree with them. -/

namespace Sys2Proof.Machine

variable {n : Nat}

/-- ADD is bit-vector addition. -/
@[simp] theorem opAdd_eq (a b : BitVec n) : opAdd a b = a + b := by
  apply BitVec.eq_of_toNat_eq
  simp [opAdd]

/-- SUB is bit-vector subtraction. -/
@[simp] theorem opSub_eq (a b : BitVec n) : opSub a b = a - b := by
  simp [opSub, Int.sub_eq_add_neg, BitVec.ofInt_add, BitVec.ofInt_neg, BitVec.ofInt_natCast, BitVec.sub_eq_add_neg]

/-- MUL is bit-vector multiplication. -/
@[simp] theorem opMul_eq (a b : BitVec n) : opMul a b = a * b := by
  apply BitVec.eq_of_toNat_eq
  simp [opMul]

/-- NEG is bit-vector negation. -/
@[simp] theorem opNeg_eq (a : BitVec n) : opNeg a = -a := by
  simp [opNeg, BitVec.ofInt_neg, BitVec.ofInt_natCast]

/-- DIV is unsigned bit-vector division, whose quotient by zero is zero. -/
theorem opDiv_eq (a b : BitVec n) : opDiv a b = a / b := by
  unfold opDiv
  split
  · rename_i h; subst h; simp
  · apply BitVec.eq_of_toNat_eq
    have : a.toNat / b.toNat < 2 ^ n := lt_of_le_of_lt (Nat.div_le_self _ _) a.isLt
    simp [Nat.mod_eq_of_lt this]

/-- MOD is the unsigned bit-vector remainder, which by zero is the dividend. -/
theorem opMod_eq (a b : BitVec n) : opMod a b = a % b := by
  unfold opMod
  split
  · rename_i h; subst h; simp
  · apply BitVec.eq_of_toNat_eq
    have : a.toNat % b.toNat < 2 ^ n := lt_of_le_of_lt (Nat.mod_le _ _) a.isLt
    simp [Nat.mod_eq_of_lt this]

/-- A shift amount is below the operand's width. -/
theorem shiftAmount_lt (b : BitVec n) (h : 0 < n) : shiftAmount b < n := by
  have : shiftAmount b ≤ (BitVec.ofNat n (n - 1)).toNat := by
    simp only [shiftAmount, BitVec.toNat_and]
    exact Nat.and_le_right
  rw [BitVec.toNat_ofNat, Nat.mod_eq_of_lt (lt_of_le_of_lt (Nat.sub_le n 1) Nat.lt_two_pow_self)] at this
  omega

end Sys2Proof.Machine
end

