-- ==== Sys2Proof/Laws/Bytes.lean ====
section
/-! SUPPORT. Words as bytes. -/

namespace Sys2Proof.Machine

@[simp] theorem toBytes_length (n : Nat) (v : Word) : (toBytes n v).length = n := by simp [toBytes]

@[simp] theorem hostOrder_length (e : Endian) (bs : List Byte) : (hostOrder e bs).length = bs.length := by
  cases e <;> simp [hostOrder]

/-- Host order is its own inverse. -/
@[simp] theorem hostOrder_hostOrder (e : Endian) (bs : List Byte) : hostOrder e (hostOrder e bs) = bs := by
  cases e <;> simp [hostOrder]

/-- Byte `k` of the low bytes of a word. -/
theorem toBytes_getElem {n k : Nat} (v : Word) (h : k < n) :
    (toBytes n v)[k]'(by simpa using h) = v.extractLsb' (8 * k) 8 := by simp [toBytes]

/-- The bits of the value a list of bytes stands for. -/
theorem ofBytes_getLsbD (bs : List Byte) (i : Nat) :
    (ofBytes bs).getLsbD i = (decide (i < 64) && (bs[i / 8]?.getD 0).getLsbD (i % 8)) := by
  induction bs generalizing i with
  | nil => simp [ofBytes]
  | cons b rest ih =>
    simp only [ofBytes, BitVec.getLsbD_or, BitVec.getLsbD_shiftLeft, BitVec.getLsbD_setWidth, ih]
    by_cases h8 : i < 8
    · have h1 : i / 8 = 0 := by omega
      have h2 : i % 8 = i := by omega
      have h3 : i < 64 := by omega
      simp [h1, h2, h3, h8]
    · have h1 : i / 8 = (i - 8) / 8 + 1 := by omega
      have h2 : i % 8 = (i - 8) % 8 := by omega
      have h3 : b.getLsbD i = false := BitVec.getLsbD_of_ge b i (by omega)
      have h4 : i - 8 < 64 ∨ ¬ i < 64 := by omega
      rw [h1, h2]
      rcases h4 with h4 | h4 <;> by_cases h64 : i < 64 <;> simp [h3, h4, h64, h8]

/-- The bits of the low bytes of a word. -/
theorem lowBytes_getLsbD (n : Nat) (v : Word) (i : Nat) :
    (lowBytes n v).getLsbD i = (decide (i < 64) && decide (i < 8 * n) && v.getLsbD i) := by
  simp [lowBytes, BitVec.getLsbD_setWidth, Bool.and_assoc]

/-- Taking a word apart and putting its bytes together again keeps its low bytes. -/
theorem ofBytes_toBytes (n : Nat) (v : Word) : ofBytes (toBytes n v) = lowBytes n v := by
  apply BitVec.eq_of_getLsbD_eq
  intro i hi
  rw [ofBytes_getLsbD, lowBytes_getLsbD]
  by_cases h : i / 8 < n
  · have h1 : i < 8 * n := by omega
    have h2 : i % 8 < 8 := by omega
    have h3 : 8 * (i / 8) + i % 8 = i := by omega
    simp [toBytes, h, h1, h2, h3, hi]
  · have h1 : ¬ i < 8 * n := by omega
    simp [toBytes, h, h1]

/-- All eight bytes are the word. -/
theorem lowBytes_eight (v : Word) : lowBytes 8 v = v := by simp [lowBytes]

/-- Putting bytes together and taking the value apart again gives the bytes. -/
theorem toBytes_ofBytes (bs : List Byte) (h : bs.length ≤ 8) : toBytes bs.length (ofBytes bs) = bs := by
  apply List.ext_getElem (by simp)
  intro k h1 h2
  simp only [toBytes_length] at h1
  rw [toBytes_getElem _ h1]
  apply BitVec.eq_of_getLsbD_eq
  intro i hi
  have e1 : (8 * k + i) / 8 = k := by omega
  have e2 : (8 * k + i) % 8 = i := by omega
  have e3 : 8 * k + i < 64 := by omega
  rw [BitVec.getLsbD_extractLsb', ofBytes_getLsbD, e1, e2]
  simp [hi, e3, h1]

/-- A value made of at most eight bytes has no higher bits. -/
theorem lowBytes_ofBytes (bs : List Byte) : lowBytes bs.length (ofBytes bs) = ofBytes bs := by
  apply BitVec.eq_of_getLsbD_eq
  intro i hi
  rw [lowBytes_getLsbD]
  by_cases h : i < 8 * bs.length
  · simp [hi, h]
  · have : bs[i / 8]? = none := by
      apply List.getElem?_eq_none
      omega
    simp [h, ofBytes_getLsbD, this]

end Sys2Proof.Machine
end

