-- ==== Sys2Proof/Laws/Decode.lean ====
section
/-! SUPPORT. Slots, fields and canonical words are the same data. -/

namespace Sys2Proof

/-- The fields of the slot that holds given fields are those fields, on both hosts. -/
@[simp] theorem Fields.slot_fields (e : Endian) (f : Fields) : (f.slot e).fields e = f := by
  obtain ⟨opcode, dst, src, off, imm⟩ := f
  cases e <;> simp only [Fields.slot, Slot.fields, Fields.mk.injEq] <;>
    refine ⟨trivial, ?_, ?_, ?_, ?_⟩ <;> apply BitVec.eq_of_getLsbD_eq <;> intro i hi <;>
    simp only [BitVec.getLsbD_append, BitVec.getLsbD_extractLsb'] <;>
    grind

/-- A slot is the slot of its fields, on both hosts. -/
@[simp] theorem Slot.fields_slot (e : Endian) (sl : Slot) : (sl.fields e).slot e = sl := by
  obtain ⟨b0, b1, b2, b3, b4, b5, b6, b7⟩ := sl
  cases e <;> simp only [Fields.slot, Slot.fields, Slot.mk.injEq] <;>
    refine ⟨trivial, ?_, ?_, ?_, ?_, ?_, ?_, ?_⟩ <;> apply BitVec.eq_of_getLsbD_eq <;> intro i hi <;>
    simp only [BitVec.getLsbD_append, BitVec.getLsbD_extractLsb'] <;>
    grind

/-- The canonical word of the fields of a word is that word. -/
@[simp] theorem Fields.word_ofWord (w : BitVec 64) : (Fields.ofWord w).word = w := by
  apply BitVec.eq_of_getLsbD_eq
  intro i hi
  simp only [Fields.ofWord, Fields.word, BitVec.getLsbD_append, BitVec.getLsbD_extractLsb']
  grind

/-- The fields of the canonical word of given fields are those fields. -/
@[simp] theorem Fields.ofWord_word (f : Fields) : Fields.ofWord f.word = f := by
  obtain ⟨opcode, dst, src, off, imm⟩ := f
  simp only [Fields.ofWord, Fields.word, Fields.mk.injEq]
  refine ⟨?_, ?_, ?_, ?_, ?_⟩ <;> apply BitVec.eq_of_getLsbD_eq <;> intro i hi <;>
    simp only [BitVec.getLsbD_append, BitVec.getLsbD_extractLsb'] <;> grind

end Sys2Proof
end

