-- ==== Sys2Proof/Laws/Memory.lean ====
section
/-! SUPPORT. Data memory: reading after writing, the canonical form every operation keeps, and wider values. -/

namespace Sys2Proof

/-! ### The canonical form, entry by entry -/

@[simp] theorem Memory.wf_nil : Memory.wf [] = true := by decide

/-- A canonical list: its first entry is no fill byte and lies below the rest, which is canonical. -/
theorem Memory.wf_cons {k : Nat} {w : Byte} {rest : Memory} :
    Memory.wf ((k, w) :: rest) = true ↔
      w ≠ fill ∧ (∀ p ∈ rest, k < p.1) ∧ Memory.wf rest = true := by
  simp only [Memory.wf, List.pairwise_cons, List.all_cons, Bool.and_eq_true, decide_eq_true_eq, bne_iff_ne]
  tauto

/-- An address below every listed one reads as the fill byte. -/
theorem Memory.read_below {m : Memory} {a : Nat} (h : ∀ p ∈ m, a < p.1) : m.read a = fill := by
  induction m with
  | nil => rfl
  | cons c rest ih =>
    obtain ⟨k, w⟩ := c
    have hk : a < k := h (k, w) (by simp)
    have hne : ¬ k = a := by omega
    simp only [read, hne, if_false]
    exact ih fun p hp => h p (by simp [hp])

/-- An address that does not read as the fill byte is listed. -/
theorem Memory.listed_of_read {m : Memory} {a : Nat} (h : m.read a ≠ fill) : ∃ v, (a, v) ∈ m := by
  induction m with
  | nil => exact absurd rfl h
  | cons c rest ih =>
    obtain ⟨k, w⟩ := c
    by_cases hk : k = a
    · exact ⟨w, by simp [hk]⟩
    · simp only [read, hk, if_false] at h
      obtain ⟨v, hv⟩ := ih h
      exact ⟨v, by simp [hv]⟩

/-- In canonical memory a listed entry is what its address reads as. -/
theorem Memory.read_of_listed {m : Memory} (hm : m.wf = true) {a : Nat} {v : Byte} (h : (a, v) ∈ m) :
    m.read a = v := by
  induction m with
  | nil => simp at h
  | cons c rest ih =>
    obtain ⟨k, w⟩ := c
    obtain ⟨-, hlt, hrest⟩ := wf_cons.mp hm
    rcases List.mem_cons.mp h with h | h
    · cases h; simp [read]
    · have := hlt _ h
      have hne : ¬ k = a := by simp at this; omega
      simp only [read, hne, if_false]
      exact ih hrest h

/-! ### One byte -/

/-- A write leaves every other address alone. -/
theorem Memory.read_write_other (m : Memory) {a b : Nat} (v : Byte) (h : b ≠ a) :
    (m.write a v).read b = m.read b := by
  have h' : ¬ a = b := fun e => h e.symm
  induction m with
  | nil => by_cases hv : v = fill <;> simp [write, hv, read, h']
  | cons c rest ih =>
    obtain ⟨k, w⟩ := c
    simp only [write]
    split
    · split <;> simp [read, h']
    · split
      · rename_i hak
        subst hak
        split <;> simp [read, h']
      · simp only [read, ih]

/-- In canonical memory a written byte reads as the value written. -/
theorem Memory.read_write_same {m : Memory} (hm : m.wf = true) (a : Nat) (v : Byte) :
    (m.write a v).read a = v := by
  induction m with
  | nil => by_cases hv : v = fill <;> simp [write, hv, read]
  | cons c rest ih =>
    obtain ⟨k, w⟩ := c
    obtain ⟨-, hlt, hrest⟩ := wf_cons.mp hm
    simp only [write]
    split
    · rename_i hak
      split
      · rename_i hv
        rw [hv]
        apply read_below
        intro p hp
        rcases List.mem_cons.mp hp with rfl | hp
        · exact hak
        · have := hlt p hp; omega
      · simp [read]
    · split
      · rename_i hak
        subst hak
        split
        · rename_i hv
          rw [hv]
          exact read_below hlt
        · simp [read]
      · rename_i hne
        have : ¬ k = a := fun e => hne e.symm
        simp only [read, this, if_false, ih hrest]

/-- Reading after a write, in one statement. -/
theorem Memory.read_write {m : Memory} (hm : m.wf = true) (a b : Nat) (v : Byte) :
    (m.write a v).read b = if b = a then v else m.read b := by
  by_cases h : b = a
  · subst h; simp [read_write_same hm]
  · simp [h, read_write_other m v h]

/-- The entries after a write: the old ones, and at most the written one. -/
theorem Memory.mem_write {m : Memory} {a : Nat} {v : Byte} {p : Host.Cell} (h : p ∈ m.write a v) :
    p ∈ m ∨ p = (a, v) := by
  induction m with
  | nil => by_cases hv : v = fill <;> simp_all [write]
  | cons c rest ih =>
    obtain ⟨k, w⟩ := c
    simp only [write] at h
    split at h
    · split at h
      · exact .inl h
      · rcases List.mem_cons.mp h with h | h
        · exact .inr h
        · exact .inl h
    · split at h
      · split at h
        · exact .inl (List.mem_cons_of_mem _ h)
        · rcases List.mem_cons.mp h with h | h
          · exact .inr h
          · exact .inl (List.mem_cons_of_mem _ h)
      · rcases List.mem_cons.mp h with h | h
        · exact .inl (by simp [h])
        · rcases ih h with h | h
          · exact .inl (List.mem_cons_of_mem _ h)
          · exact .inr h

/-- A write keeps the canonical form. -/
theorem Memory.write_wf {m : Memory} (hm : m.wf = true) (a : Nat) (v : Byte) : (m.write a v).wf = true := by
  induction m with
  | nil => by_cases hv : v = fill <;> simp [write, hv, wf_cons]
  | cons c rest ih =>
    obtain ⟨k, w⟩ := c
    obtain ⟨hw, hlt, hrest⟩ := wf_cons.mp hm
    simp only [write]
    split
    · rename_i hak
      split
      · exact hm
      · rename_i hv
        refine wf_cons.mpr ⟨hv, ?_, hm⟩
        intro p hp
        rcases List.mem_cons.mp hp with rfl | hp
        · exact hak
        · have := hlt p hp; omega
    · split
      · rename_i hak
        subst hak
        split
        · exact hrest
        · rename_i hv
          exact wf_cons.mpr ⟨hv, hlt, hrest⟩
      · rename_i h1 h2
        refine wf_cons.mpr ⟨hw, ?_, ih hrest⟩
        intro p hp
        rcases mem_write hp with hp | rfl
        · exact hlt p hp
        · simp only; omega

/-- Equal contents are equal data: canonical memories that read alike are equal. -/
theorem Memory.ext_read {m m' : Memory} (hm : m.wf = true) (hm' : m'.wf = true)
    (h : ∀ a, m.read a = m'.read a) : m = m' := by
  induction m generalizing m' with
  | nil =>
    cases m' with
    | nil => rfl
    | cons c rest =>
      obtain ⟨k, w⟩ := c
      have := h k
      simp only [read, if_true] at this
      exact absurd this.symm (wf_cons.mp hm').1
  | cons c rest ih =>
    obtain ⟨k, w⟩ := c
    obtain ⟨hw, hlt, hrest⟩ := wf_cons.mp hm
    cases m' with
    | nil =>
      have := h k
      simp only [read, if_true] at this
      exact absurd this hw
    | cons c' rest' =>
      obtain ⟨k', w'⟩ := c'
      obtain ⟨hw', hlt', hrest'⟩ := wf_cons.mp hm'
      have hkk : k = k' := by
        rcases Nat.lt_trichotomy k k' with hl | hl | hl
        · have h1 : read ((k', w') :: rest') k = fill := by
            apply read_below
            intro p hp
            rcases List.mem_cons.mp hp with rfl | hp
            · exact hl
            · have := hlt' p hp; omega
          have h2 := h k
          rw [h1] at h2
          simp only [read, if_true] at h2
          exact absurd h2 hw
        · exact hl
        · have h1 : read ((k, w) :: rest) k' = fill := by
            apply read_below
            intro p hp
            rcases List.mem_cons.mp hp with rfl | hp
            · exact hl
            · have := hlt p hp; omega
          have h2 := h k'
          rw [h1] at h2
          simp only [read, if_true] at h2
          exact absurd h2.symm hw'
      subst hkk
      have hww : w = w' := by simpa [read] using h k
      subst hww
      congr 1
      apply ih hrest hrest'
      intro a
      by_cases ha : k = a
      · subst ha
        rw [read_below hlt, read_below hlt']
      · simpa [read, ha] using h a

/-! ### Several bytes -/

@[simp] theorem Memory.readBytes_length (m : Memory) (a n : Nat) : (m.readBytes a n).length = n := by
  induction n generalizing a with
  | zero => rfl
  | succ n ih => simp [readBytes, ih]

/-- Byte `k` of a read is the byte `k` addresses up. -/
theorem Memory.readBytes_getElem (m : Memory) (a : Nat) {n k : Nat} (h : k < n) :
    (m.readBytes a n)[k]'(by simpa using h) = m.read (a + k) := by
  induction n generalizing a k with
  | zero => omega
  | succ n ih =>
    cases k with
    | zero => simp [readBytes]
    | succ k =>
      simp only [readBytes, List.getElem_cons_succ]
      rw [ih (a + 1) (by omega)]
      congr 1
      omega

/-- Reading several bytes depends on those bytes only. -/
theorem Memory.readBytes_congr {m m' : Memory} {a n : Nat}
    (h : ∀ b, a ≤ b → b < a + n → m.read b = m'.read b) : m.readBytes a n = m'.readBytes a n := by
  induction n generalizing a with
  | zero => rfl
  | succ n ih =>
    simp only [readBytes]
    rw [h a (by omega) (by omega), ih fun b h1 h2 => h b (by omega) (by omega)]

/-- Storing bytes leaves every address outside them alone. -/
theorem Memory.read_writeBytes_other (m : Memory) {a b : Nat} (bs : List Byte)
    (h : b < a ∨ a + bs.length ≤ b) : (m.writeBytes a bs).read b = m.read b := by
  induction bs generalizing m a with
  | nil => rfl
  | cons v rest ih =>
    simp only [List.length_cons] at h
    simp only [writeBytes]
    rw [ih _ (by omega), read_write_other _ _ (by omega)]

/-- Storing bytes keeps the canonical form. -/
theorem Memory.writeBytes_wf {m : Memory} (hm : m.wf = true) (a : Nat) (bs : List Byte) :
    (m.writeBytes a bs).wf = true := by
  induction bs generalizing m a with
  | nil => exact hm
  | cons v rest ih => exact ih (write_wf hm a v) (a + 1)

/-- A stored byte reads as the value stored. -/
theorem Memory.read_writeBytes {m : Memory} (hm : m.wf = true) (a : Nat) (bs : List Byte) {k : Nat}
    (h : k < bs.length) : (m.writeBytes a bs).read (a + k) = bs[k] := by
  induction bs generalizing m a k with
  | nil => simp at h
  | cons v rest ih =>
    simp only [writeBytes]
    cases k with
    | zero =>
      rw [read_writeBytes_other _ _ (by omega)]
      simp [read_write_same hm]
    | succ k =>
      have := ih (write_wf hm a v) (a + 1) (k := k) (by simpa using h)
      rw [show a + (k + 1) = a + 1 + k from by omega, this]
      simp

/-- Reading back the bytes just stored. -/
theorem Memory.readBytes_writeBytes {m : Memory} (hm : m.wf = true) (a : Nat) (bs : List Byte) :
    (m.writeBytes a bs).readBytes a bs.length = bs := by
  apply List.ext_getElem (by simp)
  intro k h1 h2
  rw [readBytes_getElem _ _ h2, read_writeBytes hm]

/-! ### Values in host order -/

/-- Storing a value changes the bytes it covers and no other. -/
theorem Memory.read_writeValue_other (m : Memory) (e : Endian) {a n b : Nat} (v : Word)
    (h : b < a ∨ a + n ≤ b) : (m.writeValue e a n v).read b = m.read b :=
  read_writeBytes_other m _ (by simpa using h)

/-- Storing a value keeps the canonical form. -/
theorem Memory.writeValue_wf {m : Memory} (hm : m.wf = true) (e : Endian) (a n : Nat) (v : Word) :
    (m.writeValue e a n v).wf = true := writeBytes_wf hm a _

/-- Loading a value just stored gives its low bytes. -/
theorem Memory.readValue_writeValue {m : Memory} (hm : m.wf = true) (e : Endian) (a n : Nat) (v : Word) :
    (m.writeValue e a n v).readValue e a n = Machine.lowBytes n v := by
  have h := readBytes_writeBytes hm a (Machine.hostOrder e (Machine.toBytes n v))
  rw [Machine.hostOrder_length, Machine.toBytes_length] at h
  simp [readValue, writeValue, h, Machine.ofBytes_toBytes]

/-- A loaded value has no bits above its bytes. -/
theorem Memory.lowBytes_readValue (m : Memory) (e : Endian) (a n : Nat) :
    Machine.lowBytes n (m.readValue e a n) = m.readValue e a n := by
  have h := Machine.lowBytes_ofBytes (Machine.hostOrder e (m.readBytes a n))
  rw [Machine.hostOrder_length, readBytes_length] at h
  exact h

/-! ### Writes that name their addresses one by one -/

namespace Machine

/-- Applying writes keeps the canonical form. -/
theorem applyWrites_wf (ok : Nat → Bool) {m : Memory} (hm : m.wf = true) (ws : List Host.Cell) :
    (applyWrites ok m ws).wf = true := by
  induction ws generalizing m with
  | nil => exact hm
  | cons c rest ih =>
    obtain ⟨a, b⟩ := c
    simp only [applyWrites]
    split
    · exact ih (Memory.write_wf hm a b)
    · exact ih hm

/-- Applying writes changes no address that is not allowed. -/
theorem read_applyWrites_other (ok : Nat → Bool) (m : Memory) (ws : List Host.Cell) {a : Nat}
    (h : ok a = false) : (applyWrites ok m ws).read a = m.read a := by
  induction ws generalizing m with
  | nil => rfl
  | cons c rest ih =>
    obtain ⟨k, b⟩ := c
    simp only [applyWrites]
    rw [ih]
    split
    · rename_i hk
      apply Memory.read_write_other
      rintro rfl
      simp [hk] at h
    · rfl

/-- The entries after writes lie at old or at allowed addresses. -/
theorem mem_applyWrites (ok : Nat → Bool) {m : Memory} {ws : List Host.Cell} {p : Host.Cell}
    (h : p ∈ applyWrites ok m ws) : p ∈ m ∨ ok p.1 = true := by
  induction ws generalizing m with
  | nil => exact .inl h
  | cons c rest ih =>
    obtain ⟨k, b⟩ := c
    simp only [applyWrites] at h
    rcases ih h with h | h
    · split at h
      · rename_i hk
        rcases Memory.mem_write h with h | rfl
        · exact .inl h
        · exact .inr hk
      · exact .inl h
    · exact .inr h

end Machine

/-- The entries after a store lie at old addresses or at stored ones. -/
theorem Memory.mem_writeBytes {m : Memory} {a : Nat} {bs : List Byte} {p : Host.Cell}
    (h : p ∈ m.writeBytes a bs) : p ∈ m ∨ (a ≤ p.1 ∧ p.1 < a + bs.length) := by
  induction bs generalizing m a with
  | nil => exact .inl h
  | cons v rest ih =>
    simp only [writeBytes] at h
    rcases ih h with h | h
    · rcases mem_write h with h | rfl
      · exact .inl h
      · exact .inr ⟨by simp, by simp⟩
    · exact .inr (by simp only [List.length_cons]; omega)

end Sys2Proof
end

