-- ==== Sys2Proof/Laws/Registers.lean ====
section
/-! SUPPORT. The register file: reading after writing, and the fields that name no register. -/

namespace Sys2Proof.Machine

/-- A register field that names a register lies inside the register file. -/
theorem isRegister_lt {r : RegNum} (h : isRegister r = true) : r.toNat < 11 := by
  simp [isRegister] at h
  omega

/-- A written register reads as the value written. -/
theorem Regs.get_set_same (x : Regs) {r : RegNum} (v : Word) (h : isRegister r = true) :
    Regs.get (Regs.set x r v) r = some v := by
  have h' := isRegister_lt h
  simp [Regs.get, Regs.set, h']

/-- A write leaves every other register alone. -/
theorem Regs.get_set_other (x : Regs) {r q : RegNum} (v : Word) (h : q ≠ r) :
    Regs.get (Regs.set x r v) q = Regs.get x q := by
  have h' : r.toNat ≠ q.toNat := fun e => h (BitVec.eq_of_toNat_eq e.symm)
  simp [Regs.get, Regs.set, h']

/-- Reading a register after a write, in one statement. -/
theorem Regs.get_set (x : Regs) {r : RegNum} (q : RegNum) (v : Word) (h : isRegister r = true) :
    Regs.get (Regs.set x r v) q = if q = r then some v else Regs.get x q := by
  by_cases hq : q = r
  · subst hq; simp [Regs.get_set_same x v h]
  · simp [hq, Regs.get_set_other x v hq]

/-- A field above 10 names no register, so writing through it changes nothing. -/
theorem Regs.set_not_register (x : Regs) {r : RegNum} (v : Word) (h : isRegister r = false) :
    Regs.set x r v = x := by
  simp [isRegister] at h
  have h' : 11 ≤ r.toNat := by omega
  exact Vector.setIfInBounds_eq_of_size_le h'

/-- Two register files that read alike are equal. -/
theorem Regs.ext_get {x y : Regs} (h : ∀ r, isRegister r = true → Regs.get x r = Regs.get y r) : x = y := by
  apply Vector.ext
  intro i hi
  have hr : isRegister (BitVec.ofNat 4 i) = true := by
    simp only [isRegister, BitVec.toNat_ofNat, decide_eq_true_eq]
    omega
  have hn : (BitVec.ofNat 4 i).toNat = i := by
    rw [BitVec.toNat_ofNat]
    exact Nat.mod_eq_of_lt (by omega)
  have := h _ hr
  simp only [Regs.get, hn, hi, Vector.getElem?_eq_getElem, Option.join_some] at this
  exact this

/-- What reading a register answers: the value it holds, or UninitRegister. -/
theorem State.readReg_ok {s : State} {r : RegNum} {v : Word} :
    s.readReg r = .ok v ↔ Regs.get s.regs r = some v := by
  unfold State.readReg
  cases Regs.get s.regs r <;> simp

/-- Reading raises UninitRegister exactly for a register without a value. -/
theorem State.readReg_error {s : State} {r : RegNum} {f : FaultInfo} :
    s.readReg r = .error f ↔ Regs.get s.regs r = none ∧ f = .uninitRegister r := by
  unfold State.readReg
  cases Regs.get s.regs r <;> simp [eq_comm]

end Sys2Proof.Machine
end

