-- ==== Sys2Proof/Laws/State.lean ====
section
/-! SUPPORT. What each named update of the state leaves in each field: one lemma per field per update. -/

namespace Sys2Proof.Machine

/-! ### raise -/

@[simp] theorem raise_regs (f : FaultInfo) (s : State) : (raise f s).regs = s.regs := rfl

@[simp] theorem raise_pc (f : FaultInfo) (s : State) : (raise f s).pc = s.pc := rfl

@[simp] theorem raise_callstack (f : FaultInfo) (s : State) : (raise f s).callstack = s.callstack := rfl

@[simp] theorem raise_mem (f : FaultInfo) (s : State) : (raise f s).mem = s.mem := rfl

@[simp] theorem raise_program (f : FaultInfo) (s : State) : (raise f s).program = s.program := rfl

@[simp] theorem raise_status (f : FaultInfo) (s : State) : (raise f s).status = .faulted f := rfl

@[simp] theorem raise_platform (f : FaultInfo) (s : State) : (raise f s).platform = s.platform := rfl

@[simp] theorem raise_cfg (f : FaultInfo) (s : State) : (raise f s).cfg = s.cfg := rfl

/-! ### State.setReg -/

@[simp] theorem State.setReg_regs (s : State) (r : RegNum) (v : Word) : (s.setReg r v).regs = Regs.set s.regs r v := rfl

@[simp] theorem State.setReg_pc (s : State) (r : RegNum) (v : Word) : (s.setReg r v).pc = s.pc := rfl

@[simp] theorem State.setReg_callstack (s : State) (r : RegNum) (v : Word) : (s.setReg r v).callstack = s.callstack := rfl

@[simp] theorem State.setReg_mem (s : State) (r : RegNum) (v : Word) : (s.setReg r v).mem = s.mem := rfl

@[simp] theorem State.setReg_program (s : State) (r : RegNum) (v : Word) : (s.setReg r v).program = s.program := rfl

@[simp] theorem State.setReg_status (s : State) (r : RegNum) (v : Word) : (s.setReg r v).status = s.status := rfl

@[simp] theorem State.setReg_platform (s : State) (r : RegNum) (v : Word) : (s.setReg r v).platform = s.platform := rfl

@[simp] theorem State.setReg_cfg (s : State) (r : RegNum) (v : Word) : (s.setReg r v).cfg = s.cfg := rfl

/-! ### State.advance -/

@[simp] theorem State.advance_regs (s : State) (n : Nat) : (s.advance n).regs = s.regs := rfl

@[simp] theorem State.advance_pc (s : State) (n : Nat) : (s.advance n).pc = s.pc + n := rfl

@[simp] theorem State.advance_callstack (s : State) (n : Nat) : (s.advance n).callstack = s.callstack := rfl

@[simp] theorem State.advance_mem (s : State) (n : Nat) : (s.advance n).mem = s.mem := rfl

@[simp] theorem State.advance_program (s : State) (n : Nat) : (s.advance n).program = s.program := rfl

@[simp] theorem State.advance_status (s : State) (n : Nat) : (s.advance n).status = s.status := rfl

@[simp] theorem State.advance_platform (s : State) (n : Nat) : (s.advance n).platform = s.platform := rfl

@[simp] theorem State.advance_cfg (s : State) (n : Nat) : (s.advance n).cfg = s.cfg := rfl

/-! ### State.afterPacket -/

@[simp] theorem State.afterPacket_regs (s : State) (o : PacketOutcome) : (s.afterPacket o).regs = o.regs := rfl

@[simp] theorem State.afterPacket_pc (s : State) (o : PacketOutcome) : (s.afterPacket o).pc = o.pc := rfl

@[simp] theorem State.afterPacket_callstack (s : State) (o : PacketOutcome) : (s.afterPacket o).callstack = s.callstack := rfl

@[simp] theorem State.afterPacket_mem (s : State) (o : PacketOutcome) : (s.afterPacket o).mem = applyWrites (byteExists s.cfg.regions) s.mem o.writes := rfl

@[simp] theorem State.afterPacket_program (s : State) (o : PacketOutcome) : (s.afterPacket o).program = s.program := rfl

@[simp] theorem State.afterPacket_status (s : State) (o : PacketOutcome) : (s.afterPacket o).status = o.status := rfl

@[simp] theorem State.afterPacket_platform (s : State) (o : PacketOutcome) : (s.afterPacket o).platform = s.platform := rfl

@[simp] theorem State.afterPacket_cfg (s : State) (o : PacketOutcome) : (s.afterPacket o).cfg = s.cfg := rfl

end Sys2Proof.Machine
end

