-- ==== Sys2Proof/Laws/Ops.lean ====
section
/-! SUPPORT. What each shared operation can do, said once: if it answers a value or a next state, then …. Later
proofs cite these lemmas and do not unfold the operations. -/

namespace Sys2Proof.Machine

/-! ### Sequencing -/

/-- A sequence of checks answers a value when each part does. -/
theorem bind_ok {α β : Type} {x : Except FaultInfo α} {f : α → Except FaultInfo β} {b : β} :
    (x >>= f) = .ok b ↔ ∃ a, x = .ok a ∧ f a = .ok b := by
  cases x <;> simp [bind, Except.bind]

/-- A sequence of checks raises what its first failing part raises. -/
theorem bind_error {α β : Type} {x : Except FaultInfo α} {f : α → Except FaultInfo β} {e : FaultInfo} :
    (x >>= f) = .error e ↔ x = .error e ∨ ∃ a, x = .ok a ∧ f a = .error e := by
  cases x <;> simp [bind, Except.bind]

@[simp] theorem ok_bind {α β : Type} (a : α) (f : α → Except FaultInfo β) : ((Except.ok a) >>= f) = f a := rfl

@[simp] theorem error_bind {α β : Type} (e : FaultInfo) (f : α → Except FaultInfo β) :
    ((Except.error e) >>= f) = .error e := rfl

@[simp] theorem return_eq_ok {α : Type} (a : α) : (pure a : Except FaultInfo α) = .ok a := rfl

@[simp] theorem finish_ok (s s' : State) : finish s (.ok s') = .next s' := rfl

@[simp] theorem finish_error (s : State) (f : FaultInfo) : finish s (.error f) = .next (raise f s) := rfl

/-- A rule always answers a next state: its own, or the one with its fault raised. -/
theorem finish_next (s : State) (r : Result) : ∃ s', finish s r = .next s' := by
  cases r <;> simp [finish]

/-- What a next state of a rule is. -/
theorem finish_cases {s s' : State} {r : Result} (h : finish s r = .next s') :
    r = .ok s' ∨ ∃ f, r = .error f ∧ s' = raise f s := by
  cases r with
  | ok t => simp only [finish_ok, Host.Outcome.next.injEq] at h; exact .inl (by rw [h])
  | error f => simp only [finish_error, Host.Outcome.next.injEq] at h; exact .inr ⟨f, rfl, h.symm⟩

/-! ### Permission -/

/-- `permit` passes exactly an instruction that may run. -/
theorem permit_ok {s : State} {g : Group} {regs : List RegNum} {w : Option RegNum} {u : Unit} :
    permit s g regs w = .ok u ↔ mayRun s.cfg g regs w = true := by
  unfold permit; split <;> simp_all

/-- `permit` raises IllegalInstruction(pc) exactly for an instruction that may not run. -/
theorem permit_error {s : State} {g : Group} {regs : List RegNum} {w : Option RegNum} {f : FaultInfo} :
    permit s g regs w = .error f ↔ mayRun s.cfg g regs w = false ∧ f = .illegalInstruction s.pc := by
  unfold permit; split <;> grind

/-- What it takes for an instruction to be allowed to run. -/
theorem mayRun_iff {cfg : Config} {g : Group} {regs : List RegNum} {w : Option RegNum} :
    mayRun cfg g regs w = true ↔
      Groups.has cfg.groups g = true ∧ (∀ r ∈ regs, isRegister r = true) ∧
        ¬ (cfg.r10ReadOnly = true ∧ w = some 10) := by
  simp only [mayRun, Bool.and_eq_true, List.all_eq_true, Bool.not_eq_true', Bool.and_eq_false_iff, beq_eq_false_iff_ne]
  grind

/-! ### Memory -/

/-- When an access is allowed. -/
theorem accessCheck_ok {cfg : Config} {k : AccessKind} {ea : Word} {n : Nat} {u : Unit} :
    accessCheck cfg k ea n = .ok u ↔
      (ea.toNat + n ≤ 2 ^ 64 ∧ allowed cfg.regions k ea.toNat n = true) ∧
        ¬ (1 < n ∧ ea.toNat % n ≠ 0 ∧ (cfg.strictAlignment = true ∨ k = .atomic)) := by
  unfold accessCheck
  split
  · simp_all
  · split <;> simp_all

/-- What an access that is not allowed raises: MemFault if no region allows it, else Misaligned. -/
theorem accessCheck_error {cfg : Config} {k : AccessKind} {ea : Word} {n : Nat} {f : FaultInfo} :
    accessCheck cfg k ea n = .error f ↔
      (¬ (ea.toNat + n ≤ 2 ^ 64 ∧ allowed cfg.regions k ea.toNat n = true) ∧ f = .memFault ea) ∨
      ((ea.toNat + n ≤ 2 ^ 64 ∧ allowed cfg.regions k ea.toNat n = true) ∧
        (1 < n ∧ ea.toNat % n ≠ 0 ∧ (cfg.strictAlignment = true ∨ k = .atomic)) ∧ f = .misaligned ea) := by
  unfold accessCheck
  grind

/-- A byte of an allowed access exists. -/
theorem byteExists_of_allowed {rs : List Region} {k : AccessKind} {a n b : Nat}
    (h : allowed rs k a n = true) (h1 : a ≤ b) (h2 : b < a + n) : byteExists rs b = true := by
  simp only [allowed, byteExists, List.any_eq_true, Bool.and_eq_true, Region.covers, decide_eq_true_eq] at *
  obtain ⟨r, hr, ⟨hb, he⟩, -⟩ := h
  exact ⟨r, hr, by omega, by omega⟩

theorem State.memRead_ok {s : State} {k : AccessKind} {ea : Word} {n : Nat} {v : Word} :
    s.memRead k ea n = .ok v ↔
      accessCheck s.cfg k ea n = .ok () ∧ v = s.mem.readValue s.cfg.endian ea.toNat n := by
  unfold State.memRead
  cases accessCheck s.cfg k ea n <;> simp [eq_comm]

theorem State.memRead_error {s : State} {k : AccessKind} {ea : Word} {n : Nat} {f : FaultInfo} :
    s.memRead k ea n = .error f ↔ accessCheck s.cfg k ea n = .error f := by
  unfold State.memRead
  cases accessCheck s.cfg k ea n <;> simp

theorem State.memWrite_ok {s s' : State} {k : AccessKind} {ea : Word} {n : Nat} {v : Word} :
    s.memWrite k ea n v = .ok s' ↔
      accessCheck s.cfg k ea n = .ok () ∧ s' = { s with mem := s.mem.writeValue s.cfg.endian ea.toNat n v } := by
  unfold State.memWrite
  cases accessCheck s.cfg k ea n <;> simp [eq_comm]

theorem State.memWrite_error {s : State} {k : AccessKind} {ea : Word} {n : Nat} {v : Word} {f : FaultInfo} :
    s.memWrite k ea n v = .error f ↔ accessCheck s.cfg k ea n = .error f := by
  unfold State.memWrite
  cases accessCheck s.cfg k ea n <;> simp

/-! ### Operands -/

theorem Source.operand32_reg_ok {r : RegNum} {s : State} {b : Half} :
    (Source.reg r).operand32 s = .ok b ↔ ∃ v, Regs.get s.regs r = some v ∧ b = low32 v := by
  simp only [Source.operand32, bind_ok, State.readReg_ok, return_eq_ok, Except.ok.injEq]
  grind

theorem Source.operand64_reg_ok {r : RegNum} {s : State} {b : Word} :
    (Source.reg r).operand64 s = .ok b ↔ Regs.get s.regs r = some b := by
  simp only [Source.operand64, State.readReg_ok]

@[simp] theorem Source.operand32_imm (v : Imm) (s : State) : (Source.imm v).operand32 s = .ok v := rfl

@[simp] theorem Source.operand64_imm (v : Imm) (s : State) : (Source.imm v).operand64 s = .ok (sext64 v) := rfl

/-- A source operand raises only UninitRegister, of the register it names. -/
theorem Source.operand32_error {src : Source} {s : State} {f : FaultInfo} (h : src.operand32 s = .error f) :
    ∃ r, src = .reg r ∧ Regs.get s.regs r = none ∧ f = .uninitRegister r := by
  cases src with
  | imm v => simp at h
  | reg r =>
    simp only [Source.operand32, bind_error, State.readReg_error, return_eq_ok, reduceCtorEq, and_false,
      exists_false, or_false] at h
    exact ⟨r, rfl, h.1, h.2⟩

theorem Source.operand64_error {src : Source} {s : State} {f : FaultInfo} (h : src.operand64 s = .error f) :
    ∃ r, src = .reg r ∧ Regs.get s.regs r = none ∧ f = .uninitRegister r := by
  cases src with
  | imm v => simp at h
  | reg r => exact ⟨r, rfl, State.readReg_error.mp h⟩

/-! ### Arithmetic -/

/-- What an ALU operation does: it raises a fault, or it writes x[d] and advances. -/
theorem alu32_cases {g : Group} {op : Half → Half → Half} {d : RegNum} {src : Source} {st s' : State}
    (h : alu32 g op d src st = .next s') :
    (∃ f, s' = raise f st) ∨
    (∃ a b, mayRun st.cfg g (d :: src.regFields) (some d) = true ∧ Regs.get st.regs d = some a ∧
      src.operand32 st = .ok b ∧ s' = (st.setReg d (zext64 (op (low32 a) b))).advance 1) := by
  rcases finish_cases h with h | ⟨f, -, h⟩
  · simp only [bind_ok, permit_ok, State.readReg_ok, return_eq_ok, Except.ok.injEq] at h
    obtain ⟨-, hp, a, ha, b, hb, rfl⟩ := h
    exact .inr ⟨a, b, hp, ha, hb, rfl⟩
  · exact .inl ⟨f, h⟩

theorem alu64_cases {g : Group} {op : Word → Word → Word} {d : RegNum} {src : Source} {st s' : State}
    (h : alu64 g op d src st = .next s') :
    (∃ f, s' = raise f st) ∨
    (∃ a b, mayRun st.cfg g (d :: src.regFields) (some d) = true ∧ Regs.get st.regs d = some a ∧
      src.operand64 st = .ok b ∧ s' = (st.setReg d (op a b)).advance 1) := by
  rcases finish_cases h with h | ⟨f, -, h⟩
  · simp only [bind_ok, permit_ok, State.readReg_ok, return_eq_ok, Except.ok.injEq] at h
    obtain ⟨-, hp, a, ha, b, hb, rfl⟩ := h
    exact .inr ⟨a, b, hp, ha, hb, rfl⟩
  · exact .inl ⟨f, h⟩

theorem move32_cases {g : Group} {op : Half → Half} {d : RegNum} {src : Source} {st s' : State}
    (h : move32 g op d src st = .next s') :
    (∃ f, s' = raise f st) ∨
    (∃ b, mayRun st.cfg g (d :: src.regFields) (some d) = true ∧ src.operand32 st = .ok b ∧
      s' = (st.setReg d (zext64 (op b))).advance 1) := by
  rcases finish_cases h with h | ⟨f, -, h⟩
  · simp only [bind_ok, permit_ok, return_eq_ok, Except.ok.injEq] at h
    obtain ⟨-, hp, b, hb, rfl⟩ := h
    exact .inr ⟨b, hp, hb, rfl⟩
  · exact .inl ⟨f, h⟩

theorem move64_cases {g : Group} {op : Word → Word} {d : RegNum} {src : Source} {st s' : State}
    (h : move64 g op d src st = .next s') :
    (∃ f, s' = raise f st) ∨
    (∃ b, mayRun st.cfg g (d :: src.regFields) (some d) = true ∧ src.operand64 st = .ok b ∧
      s' = (st.setReg d (op b)).advance 1) := by
  rcases finish_cases h with h | ⟨f, -, h⟩
  · simp only [bind_ok, permit_ok, return_eq_ok, Except.ok.injEq] at h
    obtain ⟨-, hp, b, hb, rfl⟩ := h
    exact .inr ⟨b, hp, hb, rfl⟩
  · exact .inl ⟨f, h⟩

theorem unary_cases {g : Group} {op : Word → Word} {d : RegNum} {st s' : State}
    (h : unary g op d st = .next s') :
    (∃ f, s' = raise f st) ∨
    (∃ a, mayRun st.cfg g [d] (some d) = true ∧ Regs.get st.regs d = some a ∧
      s' = (st.setReg d (op a)).advance 1) := by
  rcases finish_cases h with h | ⟨f, -, h⟩
  · simp only [bind_ok, permit_ok, State.readReg_ok, return_eq_ok, Except.ok.injEq] at h
    obtain ⟨-, hp, a, ha, rfl⟩ := h
    exact .inr ⟨a, hp, ha, rfl⟩
  · exact .inl ⟨f, h⟩

/-! ### Control transfer -/

theorem State.jump_ok {s s' : State} {D : Int} :
    s.jump D = .ok s' ↔ validTarget s.program (s.target D) = true ∧ s' = { s with pc := (s.target D).toNat } := by
  unfold State.jump; split <;> grind

theorem State.jump_error {s : State} {D : Int} {f : FaultInfo} :
    s.jump D = .error f ↔ validTarget s.program (s.target D) = false ∧ f = .badJumpTarget (s.target D) := by
  unfold State.jump; split <;> grind

theorem State.branch_ok {s s' : State} {taken : Bool} {off : Offset} :
    s.branch taken off = .ok s' ↔
      (taken = true ∧ s.jump off.toInt = .ok s') ∨ (taken = false ∧ s' = s.advance 1) := by
  cases taken <;> simp [State.branch, eq_comm]

theorem State.branch_error {s : State} {taken : Bool} {off : Offset} {f : FaultInfo} :
    s.branch taken off = .error f ↔ taken = true ∧ s.jump off.toInt = .error f := by
  cases taken <;> simp [State.branch]

/-- What a conditional jump does: it raises a fault, or it moves pc to the target or to the next slot. -/
theorem jumpIf32_cases {cond : Half → Half → Bool} {d : RegNum} {src : Source} {off : Offset} {st s' : State}
    (h : jumpIf32 cond d src off st = .next s') :
    (∃ f, s' = raise f st) ∨
    (∃ a b, mayRun st.cfg .base32 (d :: src.regFields) none = true ∧ Regs.get st.regs d = some a ∧
      src.operand32 st = .ok b ∧ st.branch (cond (low32 a) b) off = .ok s') := by
  rcases finish_cases h with h | ⟨f, -, h⟩
  · simp only [bind_ok, permit_ok, State.readReg_ok] at h
    obtain ⟨-, hp, a, ha, b, hb, h⟩ := h
    exact .inr ⟨a, b, hp, ha, hb, h⟩
  · exact .inl ⟨f, h⟩

theorem jumpIf64_cases {cond : Word → Word → Bool} {d : RegNum} {src : Source} {off : Offset} {st s' : State}
    (h : jumpIf64 cond d src off st = .next s') :
    (∃ f, s' = raise f st) ∨
    (∃ a b, mayRun st.cfg .base64 (d :: src.regFields) none = true ∧ Regs.get st.regs d = some a ∧
      src.operand64 st = .ok b ∧ st.branch (cond a b) off = .ok s') := by
  rcases finish_cases h with h | ⟨f, -, h⟩
  · simp only [bind_ok, permit_ok, State.readReg_ok] at h
    obtain ⟨-, hp, a, ha, b, hb, h⟩ := h
    exact .inr ⟨a, b, hp, ha, hb, h⟩
  · exact .inl ⟨f, h⟩

/-- What a local call answers: the target with the return slot appended. -/
theorem State.call_ok {s s' : State} {D : Int} :
    s.call D = .ok s' ↔
      s.callstack.length < s.cfg.maxCallDepth ∧ validTarget s.program (s.target D) = true ∧
        s' = { s with callstack := s.callstack ++ [s.pc + 1], pc := (s.target D).toNat } := by
  unfold State.call
  grind

/-- What a local call raises: CallDepthExceeded first, then BadJumpTarget. -/
theorem State.call_error {s : State} {D : Int} {f : FaultInfo} :
    s.call D = .error f ↔
      (s.cfg.maxCallDepth ≤ s.callstack.length ∧ f = .callDepthExceeded s.pc) ∨
      (s.callstack.length < s.cfg.maxCallDepth ∧ validTarget s.program (s.target D) = false ∧
        f = .badJumpTarget (s.target D)) := by
  unfold State.call
  grind

/-- EXIT without a caller ends the run where it stands. -/
theorem State.leave_empty {s : State} (h : s.callstack = []) : s.leave = { s with status := .exited } := by
  simp [State.leave, h]

/-- EXIT with a caller returns to the newest return slot. -/
theorem State.leave_push {s : State} {cs : List Nat} {t : Nat} (h : s.callstack = cs ++ [t]) :
    s.leave = { s with callstack := cs, pc := t } := by
  simp [State.leave, h]

/-- What a helper call does: it raises a fault, or the platform's helper answers. -/
theorem callPlatform_cases {kind : HelperKind} {id : Imm} {st s' : State}
    (h : callPlatform kind id st = .next s') :
    (∃ f, s' = raise f st) ∨
    (mayRun st.cfg .base32 [] none = true ∧ (kind, id) ∈ st.cfg.helpers ∧
      st.afterHelper (Config.helper kind id st.cfg st.regs st.mem st.platform) = .ok s') := by
  rcases finish_cases h with h | ⟨f, -, h⟩
  · simp only [bind_ok, permit_ok] at h
    obtain ⟨-, hp, h⟩ := h
    split at h
    · rename_i hk; exact .inr ⟨hp, hk, h⟩
    · simp at h
  · exact .inl ⟨f, h⟩

/-- What a helper's answer can change: not the call stack, the program or the parameters. -/
theorem State.afterHelper_frame {s s' : State} {o : HelperOutcome} (h : s.afterHelper o = .ok s') :
    s'.callstack = s.callstack ∧ s'.program = s.program ∧ s'.cfg = s.cfg ∧
      (∃ ws, s'.mem = applyWrites (fun a => allowed s.cfg.regions .store a 1) s.mem ws) ∧
      ((s'.status = s.status ∧ s'.pc = s.pc + 1) ∨ s'.status = .exited) := by
  cases o with
  | returns regs ws p => cases h; exact ⟨rfl, rfl, rfl, ⟨ws, rfl⟩, .inl ⟨rfl, rfl⟩⟩
  | ends regs ws p pc => cases h; exact ⟨rfl, rfl, rfl, ⟨ws, rfl⟩, .inr rfl⟩
  | faults f => simp [State.afterHelper] at h

/-! ### Loads, stores and atomics -/

/-- What a load does: it raises a fault, or it writes x[d] and advances. -/
theorem loadMem_cases {g : Group} {n : Nat} {ext : Word → Word} {d s : RegNum} {off : Offset} {st s' : State}
    (h : loadMem g n ext d s off st = .next s') :
    (∃ f, s' = raise f st) ∨
    (∃ base, mayRun st.cfg g [d, s] (some d) = true ∧ Regs.get st.regs s = some base ∧
      accessCheck st.cfg .load (effAddr base off) n = .ok () ∧
      s' = (st.setReg d (ext (st.mem.readValue st.cfg.endian (effAddr base off).toNat n))).advance 1) := by
  rcases finish_cases h with h | ⟨f, -, h⟩
  · simp only [bind_ok, permit_ok, State.readReg_ok, State.memRead_ok, return_eq_ok, Except.ok.injEq] at h
    obtain ⟨-, hp, base, hb, v, ⟨hc, rfl⟩, rfl⟩ := h
    exact .inr ⟨base, hp, hb, hc, rfl⟩
  · exact .inl ⟨f, h⟩

/-- What an immediate store does: it raises a fault, or it writes the bytes at the effective address and advances. -/
theorem storeImm_cases {g : Group} {n : Nat} {d : RegNum} {off : Offset} {imm : Imm} {st s' : State}
    (h : storeImm g n d off imm st = .next s') :
    (∃ f, s' = raise f st) ∨
    (∃ base, mayRun st.cfg g [d] none = true ∧ Regs.get st.regs d = some base ∧
      accessCheck st.cfg .store (effAddr base off) n = .ok () ∧
      s' = { st with
        mem := st.mem.writeValue st.cfg.endian (effAddr base off).toNat n (sext64 imm), pc := st.pc + 1 }) := by
  rcases finish_cases h with h | ⟨f, -, h⟩
  · simp only [bind_ok, permit_ok, State.readReg_ok, State.memWrite_ok, return_eq_ok, Except.ok.injEq] at h
    obtain ⟨-, hp, base, hb, t, ⟨hc, rfl⟩, rfl⟩ := h
    exact .inr ⟨base, hp, hb, hc, rfl⟩
  · exact .inl ⟨f, h⟩

/-- What a register store does. -/
theorem storeReg_cases {g : Group} {n : Nat} {d s : RegNum} {off : Offset} {st s' : State}
    (h : storeReg g n d s off st = .next s') :
    (∃ f, s' = raise f st) ∨
    (∃ base v, mayRun st.cfg g [d, s] none = true ∧ Regs.get st.regs d = some base ∧
      Regs.get st.regs s = some v ∧ accessCheck st.cfg .store (effAddr base off) n = .ok () ∧
      s' = { st with mem := st.mem.writeValue st.cfg.endian (effAddr base off).toNat n v, pc := st.pc + 1 }) := by
  rcases finish_cases h with h | ⟨f, -, h⟩
  · simp only [bind_ok, permit_ok, State.readReg_ok, State.memWrite_ok, return_eq_ok, Except.ok.injEq] at h
    obtain ⟨-, hp, base, hb, v, hv, t, ⟨hc, rfl⟩, rfl⟩ := h
    exact .inr ⟨base, v, hp, hb, hv, hc, rfl⟩
  · exact .inl ⟨f, h⟩

/-- What the indivisible action of an atomic answers: the old value, and the state with the new one stored. -/
theorem State.update_ok {st s' : State} {n : Nat} {op : Word → Word → Word} {ea v old : Word} :
    st.update n op ea v = .ok (old, s') ↔
      accessCheck st.cfg .atomic ea n = .ok () ∧ old = st.mem.readValue st.cfg.endian ea.toNat n ∧
        s' = { st with mem := st.mem.writeValue st.cfg.endian ea.toNat n (op old v) } := by
  simp only [State.update, bind_ok, State.memRead_ok, State.memWrite_ok, return_eq_ok, Except.ok.injEq,
    Prod.mk.injEq]
  constructor
  · rintro ⟨a, ⟨hc, rfl⟩, b, ⟨-, rfl⟩, rfl, rfl⟩
    exact ⟨hc, rfl, rfl⟩
  · rintro ⟨hc, rfl, rfl⟩
    exact ⟨_, ⟨hc, rfl⟩, _, ⟨hc, rfl⟩, rfl, rfl⟩

/-- What a simple atomic without FETCH does. -/
theorem atomicOp_cases {g : Group} {n : Nat} {op : Word → Word → Word} {d s : RegNum} {off : Offset}
    {st s' : State} (h : atomicOp g n op d s off st = .next s') :
    (∃ f, s' = raise f st) ∨
    (∃ base v, mayRun st.cfg g [d, s] none = true ∧ Regs.get st.regs d = some base ∧
      Regs.get st.regs s = some v ∧ accessCheck st.cfg .atomic (effAddr base off) n = .ok () ∧
      s' = { st with
        mem := st.mem.writeValue st.cfg.endian (effAddr base off).toNat n
          (op (st.mem.readValue st.cfg.endian (effAddr base off).toNat n) (lowBytes n v)), pc := st.pc + 1 }) := by
  rcases finish_cases h with h | ⟨f, -, h⟩
  · simp only [bind_ok, permit_ok, State.readReg_ok, return_eq_ok, Except.ok.injEq, Prod.exists,
      State.update_ok] at h
    obtain ⟨-, hp, base, hb, v, hv, old, t, ⟨hc, rfl, rfl⟩, rfl⟩ := h
    exact .inr ⟨base, v, hp, hb, hv, hc, rfl⟩
  · exact .inl ⟨f, h⟩

/-- What an atomic with FETCH, or an exchange, does. -/
theorem atomicFetch_cases {g : Group} {n : Nat} {op : Word → Word → Word} {d s : RegNum} {off : Offset}
    {st s' : State} (h : atomicFetch g n op d s off st = .next s') :
    (∃ f, s' = raise f st) ∨
    (∃ base v, mayRun st.cfg g [d, s] (some s) = true ∧ Regs.get st.regs d = some base ∧
      Regs.get st.regs s = some v ∧ accessCheck st.cfg .atomic (effAddr base off) n = .ok () ∧
      s' = { st with
        mem := st.mem.writeValue st.cfg.endian (effAddr base off).toNat n
          (op (st.mem.readValue st.cfg.endian (effAddr base off).toNat n) (lowBytes n v)),
        regs := Regs.set st.regs s (st.mem.readValue st.cfg.endian (effAddr base off).toNat n),
        pc := st.pc + 1 }) := by
  rcases finish_cases h with h | ⟨f, -, h⟩
  · simp only [bind_ok, permit_ok, State.readReg_ok, return_eq_ok, Except.ok.injEq, Prod.exists,
      State.update_ok] at h
    obtain ⟨-, hp, base, hb, v, hv, old, t, ⟨hc, rfl, rfl⟩, rfl⟩ := h
    exact .inr ⟨base, v, hp, hb, hv, hc, rfl⟩
  · exact .inl ⟨f, h⟩

/-- What a compare and exchange does: memory changes only if the comparison holds; x[0] receives the old value. -/
theorem atomicCmpxchg_cases {g : Group} {n : Nat} {d s : RegNum} {off : Offset} {st s' : State}
    (h : atomicCmpxchg g n d s off st = .next s') :
    (∃ f, s' = raise f st) ∨
    (∃ base v e, mayRun st.cfg g [d, s] none = true ∧ Regs.get st.regs d = some base ∧
      Regs.get st.regs s = some v ∧ Regs.get st.regs 0 = some e ∧
      accessCheck st.cfg .atomic (effAddr base off) n = .ok () ∧
      s' = { st with
        mem := if st.mem.readValue st.cfg.endian (effAddr base off).toNat n = lowBytes n e then
            st.mem.writeValue st.cfg.endian (effAddr base off).toNat n (lowBytes n v) else st.mem,
        regs := Regs.set st.regs 0 (st.mem.readValue st.cfg.endian (effAddr base off).toNat n),
        pc := st.pc + 1 }) := by
  rcases finish_cases h with h | ⟨f, -, h⟩
  · simp only [bind_ok, permit_ok, State.readReg_ok, return_eq_ok, Except.ok.injEq, State.memRead_ok] at h
    obtain ⟨-, hp, base, hb, v, hv, e, he, old, ⟨hc, rfl⟩, t, ht, rfl⟩ := h
    refine .inr ⟨base, v, e, hp, hb, hv, he, hc, ?_⟩
    unfold State.memWriteIf at ht
    split at ht
    · rename_i hw
      rw [State.memWrite_ok] at ht
      rw [ht.2, if_pos (by simpa using hw)]
      rfl
    · rename_i hw
      cases ht
      rw [if_neg (by simpa using hw)]
      rfl
  · exact .inl ⟨f, h⟩

/-! ### Immediate and packet loads -/

/-- What a 64-bit immediate load does. -/
theorem loadWide_cases {sub : BitVec 4} {imm : Imm} {value : Option Word} {d : RegNum} {st s' : State}
    (h : loadWide sub imm value d st = .next s') :
    (∃ f, s' = raise f st) ∨
    (∃ v, mayRun st.cfg .base64 [d] (some d) = true ∧ value = some v ∧ s' = (st.setReg d v).advance 2) := by
  rcases finish_cases h with h | ⟨f, -, h⟩
  · simp only [bind_ok, permit_ok] at h
    obtain ⟨-, hp, h⟩ := h
    cases value with
    | none => simp at h
    | some v =>
      simp only [return_eq_ok, Except.ok.injEq] at h
      exact .inr ⟨v, hp, rfl, h.symm⟩
  · exact .inl ⟨f, h⟩

theorem State.packetAccess_ok {st s' : State} {mode : PacketMode} {size : Nat} {value : Option Word} {imm : Imm} :
    st.packetAccess mode size value imm = .ok s' ↔
      st.cfg.packetAccess = true ∧
        s' = st.afterPacket (Config.packetResult mode size value imm st.cfg st.regs st.mem st.pc st.status st.callstack
          st.program st.platform) := by
  unfold State.packetAccess; split <;> grind

/-- What a packet load with mode ABS does. -/
theorem packetAbs_cases {size : Nat} {imm : Imm} {st s' : State} (h : packetAbs size imm st = .next s') :
    (∃ f, s' = raise f st) ∨
    (mayRun st.cfg .packet [] none = true ∧ st.cfg.packetAccess = true ∧
      s' = st.afterPacket (Config.packetResult .abs size none imm st.cfg st.regs st.mem st.pc st.status st.callstack
          st.program st.platform)) := by
  rcases finish_cases h with h | ⟨f, -, h⟩
  · simp only [bind_ok, permit_ok, State.packetAccess_ok] at h
    obtain ⟨-, hp, ha, h⟩ := h
    exact .inr ⟨hp, ha, h⟩
  · exact .inl ⟨f, h⟩

/-- What a packet load with mode IND does. -/
theorem packetInd_cases {size : Nat} {s : RegNum} {imm : Imm} {st s' : State}
    (h : packetInd size s imm st = .next s') :
    (∃ f, s' = raise f st) ∨
    (∃ v, mayRun st.cfg .packet [s] none = true ∧ Regs.get st.regs s = some v ∧ st.cfg.packetAccess = true ∧
      s' = st.afterPacket
        (Config.packetResult .ind size (some v) imm st.cfg st.regs st.mem st.pc st.status st.callstack
          st.program st.platform)) := by
  rcases finish_cases h with h | ⟨f, -, h⟩
  · simp only [bind_ok, permit_ok, State.readReg_ok, State.packetAccess_ok] at h
    obtain ⟨-, hp, v, hv, ha, h⟩ := h
    exact .inr ⟨v, hp, hv, ha, h⟩
  · exact .inl ⟨f, h⟩

end Sys2Proof.Machine
end

