-- ==== Sys2Proof/Laws/PerInstr.lean ====
section
/-! SUPPORT. Facts proved instruction by instruction, one lemma per constructor of `Instr`. -/

namespace Sys2Proof.Laws

/-- Accepting a well-formed instruction whose unused fields are zero. -/
theorem accept_ok {i : Instr} (h : i.wf = true) : accept true i = .ok i := by simp [accept, h]

/-! ### FieldsDecode: the decoder reads an instruction back from its own fields -/

/-- Decoding the fields the encoder writes for a well-formed instruction gives that instruction. -/
def FieldsDecode.Statement (i : Instr) : Prop :=
  i.wf = true →
    match i.secondImm with
    | none => i.fields.opcode ≠ wideOpcode ∧ decodeBasic i.fields = .ok i
    | some nextImm => i.fields.opcode = wideOpcode ∧ decodeWide i.fields (secondSlotFields nextImm) = .ok i

theorem FieldsDecode.addAluK (d : RegNum) (imm : Imm) : FieldsDecode.Statement (.addAluK d imm) := fun h =>
  ⟨(by decide : (0x04 : BitVec 8) ≠ 0x18), by
    show decodeBasic ⟨0x04, d, 0, 0, imm⟩ = _
    simp [decodeBasic, Fields.cls, Fields.specific, decodeAlu, formK, accept, h]⟩

theorem FieldsDecode.addAluX (d : RegNum) (s : RegNum) : FieldsDecode.Statement (.addAluX d s) := fun h =>
  ⟨(by decide : (0x0c : BitVec 8) ≠ 0x18), by
    show decodeBasic ⟨0x0c, d, s, 0, 0⟩ = _
    simp [decodeBasic, Fields.cls, Fields.specific, decodeAlu, formX, accept, h]⟩

theorem FieldsDecode.addAlu64K (d : RegNum) (imm : Imm) : FieldsDecode.Statement (.addAlu64K d imm) := fun h =>
  ⟨(by decide : (0x07 : BitVec 8) ≠ 0x18), by
    show decodeBasic ⟨0x07, d, 0, 0, imm⟩ = _
    simp [decodeBasic, Fields.cls, Fields.specific, decodeAlu64, formK, accept, h]⟩

theorem FieldsDecode.addAlu64X (d : RegNum) (s : RegNum) : FieldsDecode.Statement (.addAlu64X d s) := fun h =>
  ⟨(by decide : (0x0f : BitVec 8) ≠ 0x18), by
    show decodeBasic ⟨0x0f, d, s, 0, 0⟩ = _
    simp [decodeBasic, Fields.cls, Fields.specific, decodeAlu64, formX, accept, h]⟩

theorem FieldsDecode.subAluK (d : RegNum) (imm : Imm) : FieldsDecode.Statement (.subAluK d imm) := fun h =>
  ⟨(by decide : (0x14 : BitVec 8) ≠ 0x18), by
    show decodeBasic ⟨0x14, d, 0, 0, imm⟩ = _
    simp [decodeBasic, Fields.cls, Fields.specific, decodeAlu, formK, accept, h]⟩

theorem FieldsDecode.subAluX (d : RegNum) (s : RegNum) : FieldsDecode.Statement (.subAluX d s) := fun h =>
  ⟨(by decide : (0x1c : BitVec 8) ≠ 0x18), by
    show decodeBasic ⟨0x1c, d, s, 0, 0⟩ = _
    simp [decodeBasic, Fields.cls, Fields.specific, decodeAlu, formX, accept, h]⟩

theorem FieldsDecode.subAlu64K (d : RegNum) (imm : Imm) : FieldsDecode.Statement (.subAlu64K d imm) := fun h =>
  ⟨(by decide : (0x17 : BitVec 8) ≠ 0x18), by
    show decodeBasic ⟨0x17, d, 0, 0, imm⟩ = _
    simp [decodeBasic, Fields.cls, Fields.specific, decodeAlu64, formK, accept, h]⟩

theorem FieldsDecode.subAlu64X (d : RegNum) (s : RegNum) : FieldsDecode.Statement (.subAlu64X d s) := fun h =>
  ⟨(by decide : (0x1f : BitVec 8) ≠ 0x18), by
    show decodeBasic ⟨0x1f, d, s, 0, 0⟩ = _
    simp [decodeBasic, Fields.cls, Fields.specific, decodeAlu64, formX, accept, h]⟩

theorem FieldsDecode.mulAluK (d : RegNum) (imm : Imm) : FieldsDecode.Statement (.mulAluK d imm) := fun h =>
  ⟨(by decide : (0x24 : BitVec 8) ≠ 0x18), by
    show decodeBasic ⟨0x24, d, 0, 0, imm⟩ = _
    simp [decodeBasic, Fields.cls, Fields.specific, decodeAlu, formK, accept, h]⟩

theorem FieldsDecode.mulAluX (d : RegNum) (s : RegNum) : FieldsDecode.Statement (.mulAluX d s) := fun h =>
  ⟨(by decide : (0x2c : BitVec 8) ≠ 0x18), by
    show decodeBasic ⟨0x2c, d, s, 0, 0⟩ = _
    simp [decodeBasic, Fields.cls, Fields.specific, decodeAlu, formX, accept, h]⟩

theorem FieldsDecode.mulAlu64K (d : RegNum) (imm : Imm) : FieldsDecode.Statement (.mulAlu64K d imm) := fun h =>
  ⟨(by decide : (0x27 : BitVec 8) ≠ 0x18), by
    show decodeBasic ⟨0x27, d, 0, 0, imm⟩ = _
    simp [decodeBasic, Fields.cls, Fields.specific, decodeAlu64, formK, accept, h]⟩

theorem FieldsDecode.mulAlu64X (d : RegNum) (s : RegNum) : FieldsDecode.Statement (.mulAlu64X d s) := fun h =>
  ⟨(by decide : (0x2f : BitVec 8) ≠ 0x18), by
    show decodeBasic ⟨0x2f, d, s, 0, 0⟩ = _
    simp [decodeBasic, Fields.cls, Fields.specific, decodeAlu64, formX, accept, h]⟩

theorem FieldsDecode.divAluK (d : RegNum) (imm : Imm) : FieldsDecode.Statement (.divAluK d imm) := fun h =>
  ⟨(by decide : (0x34 : BitVec 8) ≠ 0x18), by
    show decodeBasic ⟨0x34, d, 0, 0, imm⟩ = _
    simp [decodeBasic, Fields.cls, Fields.specific, decodeAlu, formDivK, accept, h]⟩

theorem FieldsDecode.divAluX (d : RegNum) (s : RegNum) : FieldsDecode.Statement (.divAluX d s) := fun h =>
  ⟨(by decide : (0x3c : BitVec 8) ≠ 0x18), by
    show decodeBasic ⟨0x3c, d, s, 0, 0⟩ = _
    simp [decodeBasic, Fields.cls, Fields.specific, decodeAlu, formDivX, accept, h]⟩

theorem FieldsDecode.divAlu64K (d : RegNum) (imm : Imm) : FieldsDecode.Statement (.divAlu64K d imm) := fun h =>
  ⟨(by decide : (0x37 : BitVec 8) ≠ 0x18), by
    show decodeBasic ⟨0x37, d, 0, 0, imm⟩ = _
    simp [decodeBasic, Fields.cls, Fields.specific, decodeAlu64, formDivK, accept, h]⟩

theorem FieldsDecode.divAlu64X (d : RegNum) (s : RegNum) : FieldsDecode.Statement (.divAlu64X d s) := fun h =>
  ⟨(by decide : (0x3f : BitVec 8) ≠ 0x18), by
    show decodeBasic ⟨0x3f, d, s, 0, 0⟩ = _
    simp [decodeBasic, Fields.cls, Fields.specific, decodeAlu64, formDivX, accept, h]⟩

theorem FieldsDecode.sdivAluK (d : RegNum) (imm : Imm) : FieldsDecode.Statement (.sdivAluK d imm) := fun h =>
  ⟨(by decide : (0x34 : BitVec 8) ≠ 0x18), by
    show decodeBasic ⟨0x34, d, 0, 1, imm⟩ = _
    simp [decodeBasic, Fields.cls, Fields.specific, decodeAlu, formDivK, accept, h]⟩

theorem FieldsDecode.sdivAluX (d : RegNum) (s : RegNum) : FieldsDecode.Statement (.sdivAluX d s) := fun h =>
  ⟨(by decide : (0x3c : BitVec 8) ≠ 0x18), by
    show decodeBasic ⟨0x3c, d, s, 1, 0⟩ = _
    simp [decodeBasic, Fields.cls, Fields.specific, decodeAlu, formDivX, accept, h]⟩

theorem FieldsDecode.sdivAlu64K (d : RegNum) (imm : Imm) : FieldsDecode.Statement (.sdivAlu64K d imm) := fun h =>
  ⟨(by decide : (0x37 : BitVec 8) ≠ 0x18), by
    show decodeBasic ⟨0x37, d, 0, 1, imm⟩ = _
    simp [decodeBasic, Fields.cls, Fields.specific, decodeAlu64, formDivK, accept, h]⟩

theorem FieldsDecode.sdivAlu64X (d : RegNum) (s : RegNum) : FieldsDecode.Statement (.sdivAlu64X d s) := fun h =>
  ⟨(by decide : (0x3f : BitVec 8) ≠ 0x18), by
    show decodeBasic ⟨0x3f, d, s, 1, 0⟩ = _
    simp [decodeBasic, Fields.cls, Fields.specific, decodeAlu64, formDivX, accept, h]⟩

theorem FieldsDecode.orAluK (d : RegNum) (imm : Imm) : FieldsDecode.Statement (.orAluK d imm) := fun h =>
  ⟨(by decide : (0x44 : BitVec 8) ≠ 0x18), by
    show decodeBasic ⟨0x44, d, 0, 0, imm⟩ = _
    simp [decodeBasic, Fields.cls, Fields.specific, decodeAlu, formK, accept, h]⟩

theorem FieldsDecode.orAluX (d : RegNum) (s : RegNum) : FieldsDecode.Statement (.orAluX d s) := fun h =>
  ⟨(by decide : (0x4c : BitVec 8) ≠ 0x18), by
    show decodeBasic ⟨0x4c, d, s, 0, 0⟩ = _
    simp [decodeBasic, Fields.cls, Fields.specific, decodeAlu, formX, accept, h]⟩

theorem FieldsDecode.orAlu64K (d : RegNum) (imm : Imm) : FieldsDecode.Statement (.orAlu64K d imm) := fun h =>
  ⟨(by decide : (0x47 : BitVec 8) ≠ 0x18), by
    show decodeBasic ⟨0x47, d, 0, 0, imm⟩ = _
    simp [decodeBasic, Fields.cls, Fields.specific, decodeAlu64, formK, accept, h]⟩

theorem FieldsDecode.orAlu64X (d : RegNum) (s : RegNum) : FieldsDecode.Statement (.orAlu64X d s) := fun h =>
  ⟨(by decide : (0x4f : BitVec 8) ≠ 0x18), by
    show decodeBasic ⟨0x4f, d, s, 0, 0⟩ = _
    simp [decodeBasic, Fields.cls, Fields.specific, decodeAlu64, formX, accept, h]⟩

theorem FieldsDecode.andAluK (d : RegNum) (imm : Imm) : FieldsDecode.Statement (.andAluK d imm) := fun h =>
  ⟨(by decide : (0x54 : BitVec 8) ≠ 0x18), by
    show decodeBasic ⟨0x54, d, 0, 0, imm⟩ = _
    simp [decodeBasic, Fields.cls, Fields.specific, decodeAlu, formK, accept, h]⟩

theorem FieldsDecode.andAluX (d : RegNum) (s : RegNum) : FieldsDecode.Statement (.andAluX d s) := fun h =>
  ⟨(by decide : (0x5c : BitVec 8) ≠ 0x18), by
    show decodeBasic ⟨0x5c, d, s, 0, 0⟩ = _
    simp [decodeBasic, Fields.cls, Fields.specific, decodeAlu, formX, accept, h]⟩

theorem FieldsDecode.andAlu64K (d : RegNum) (imm : Imm) : FieldsDecode.Statement (.andAlu64K d imm) := fun h =>
  ⟨(by decide : (0x57 : BitVec 8) ≠ 0x18), by
    show decodeBasic ⟨0x57, d, 0, 0, imm⟩ = _
    simp [decodeBasic, Fields.cls, Fields.specific, decodeAlu64, formK, accept, h]⟩

theorem FieldsDecode.andAlu64X (d : RegNum) (s : RegNum) : FieldsDecode.Statement (.andAlu64X d s) := fun h =>
  ⟨(by decide : (0x5f : BitVec 8) ≠ 0x18), by
    show decodeBasic ⟨0x5f, d, s, 0, 0⟩ = _
    simp [decodeBasic, Fields.cls, Fields.specific, decodeAlu64, formX, accept, h]⟩

theorem FieldsDecode.lshAluK (d : RegNum) (imm : Imm) : FieldsDecode.Statement (.lshAluK d imm) := fun h =>
  ⟨(by decide : (0x64 : BitVec 8) ≠ 0x18), by
    show decodeBasic ⟨0x64, d, 0, 0, imm⟩ = _
    simp [decodeBasic, Fields.cls, Fields.specific, decodeAlu, formK, accept, h]⟩

theorem FieldsDecode.lshAluX (d : RegNum) (s : RegNum) : FieldsDecode.Statement (.lshAluX d s) := fun h =>
  ⟨(by decide : (0x6c : BitVec 8) ≠ 0x18), by
    show decodeBasic ⟨0x6c, d, s, 0, 0⟩ = _
    simp [decodeBasic, Fields.cls, Fields.specific, decodeAlu, formX, accept, h]⟩

theorem FieldsDecode.lshAlu64K (d : RegNum) (imm : Imm) : FieldsDecode.Statement (.lshAlu64K d imm) := fun h =>
  ⟨(by decide : (0x67 : BitVec 8) ≠ 0x18), by
    show decodeBasic ⟨0x67, d, 0, 0, imm⟩ = _
    simp [decodeBasic, Fields.cls, Fields.specific, decodeAlu64, formK, accept, h]⟩

theorem FieldsDecode.lshAlu64X (d : RegNum) (s : RegNum) : FieldsDecode.Statement (.lshAlu64X d s) := fun h =>
  ⟨(by decide : (0x6f : BitVec 8) ≠ 0x18), by
    show decodeBasic ⟨0x6f, d, s, 0, 0⟩ = _
    simp [decodeBasic, Fields.cls, Fields.specific, decodeAlu64, formX, accept, h]⟩

theorem FieldsDecode.rshAluK (d : RegNum) (imm : Imm) : FieldsDecode.Statement (.rshAluK d imm) := fun h =>
  ⟨(by decide : (0x74 : BitVec 8) ≠ 0x18), by
    show decodeBasic ⟨0x74, d, 0, 0, imm⟩ = _
    simp [decodeBasic, Fields.cls, Fields.specific, decodeAlu, formK, accept, h]⟩

theorem FieldsDecode.rshAluX (d : RegNum) (s : RegNum) : FieldsDecode.Statement (.rshAluX d s) := fun h =>
  ⟨(by decide : (0x7c : BitVec 8) ≠ 0x18), by
    show decodeBasic ⟨0x7c, d, s, 0, 0⟩ = _
    simp [decodeBasic, Fields.cls, Fields.specific, decodeAlu, formX, accept, h]⟩

theorem FieldsDecode.rshAlu64K (d : RegNum) (imm : Imm) : FieldsDecode.Statement (.rshAlu64K d imm) := fun h =>
  ⟨(by decide : (0x77 : BitVec 8) ≠ 0x18), by
    show decodeBasic ⟨0x77, d, 0, 0, imm⟩ = _
    simp [decodeBasic, Fields.cls, Fields.specific, decodeAlu64, formK, accept, h]⟩

theorem FieldsDecode.rshAlu64X (d : RegNum) (s : RegNum) : FieldsDecode.Statement (.rshAlu64X d s) := fun h =>
  ⟨(by decide : (0x7f : BitVec 8) ≠ 0x18), by
    show decodeBasic ⟨0x7f, d, s, 0, 0⟩ = _
    simp [decodeBasic, Fields.cls, Fields.specific, decodeAlu64, formX, accept, h]⟩

theorem FieldsDecode.negAlu (d : RegNum) : FieldsDecode.Statement (.negAlu d) := fun h =>
  ⟨(by decide : (0x84 : BitVec 8) ≠ 0x18), by
    show decodeBasic ⟨0x84, d, 0, 0, 0⟩ = _
    simp [decodeBasic, Fields.cls, Fields.specific, decodeAlu, formNeg, accept, h]⟩

theorem FieldsDecode.negAlu64 (d : RegNum) : FieldsDecode.Statement (.negAlu64 d) := fun h =>
  ⟨(by decide : (0x87 : BitVec 8) ≠ 0x18), by
    show decodeBasic ⟨0x87, d, 0, 0, 0⟩ = _
    simp [decodeBasic, Fields.cls, Fields.specific, decodeAlu64, formNeg, accept, h]⟩

theorem FieldsDecode.modAluK (d : RegNum) (imm : Imm) : FieldsDecode.Statement (.modAluK d imm) := fun h =>
  ⟨(by decide : (0x94 : BitVec 8) ≠ 0x18), by
    show decodeBasic ⟨0x94, d, 0, 0, imm⟩ = _
    simp [decodeBasic, Fields.cls, Fields.specific, decodeAlu, formDivK, accept, h]⟩

theorem FieldsDecode.modAluX (d : RegNum) (s : RegNum) : FieldsDecode.Statement (.modAluX d s) := fun h =>
  ⟨(by decide : (0x9c : BitVec 8) ≠ 0x18), by
    show decodeBasic ⟨0x9c, d, s, 0, 0⟩ = _
    simp [decodeBasic, Fields.cls, Fields.specific, decodeAlu, formDivX, accept, h]⟩

theorem FieldsDecode.modAlu64K (d : RegNum) (imm : Imm) : FieldsDecode.Statement (.modAlu64K d imm) := fun h =>
  ⟨(by decide : (0x97 : BitVec 8) ≠ 0x18), by
    show decodeBasic ⟨0x97, d, 0, 0, imm⟩ = _
    simp [decodeBasic, Fields.cls, Fields.specific, decodeAlu64, formDivK, accept, h]⟩

theorem FieldsDecode.modAlu64X (d : RegNum) (s : RegNum) : FieldsDecode.Statement (.modAlu64X d s) := fun h =>
  ⟨(by decide : (0x9f : BitVec 8) ≠ 0x18), by
    show decodeBasic ⟨0x9f, d, s, 0, 0⟩ = _
    simp [decodeBasic, Fields.cls, Fields.specific, decodeAlu64, formDivX, accept, h]⟩

theorem FieldsDecode.smodAluK (d : RegNum) (imm : Imm) : FieldsDecode.Statement (.smodAluK d imm) := fun h =>
  ⟨(by decide : (0x94 : BitVec 8) ≠ 0x18), by
    show decodeBasic ⟨0x94, d, 0, 1, imm⟩ = _
    simp [decodeBasic, Fields.cls, Fields.specific, decodeAlu, formDivK, accept, h]⟩

theorem FieldsDecode.smodAluX (d : RegNum) (s : RegNum) : FieldsDecode.Statement (.smodAluX d s) := fun h =>
  ⟨(by decide : (0x9c : BitVec 8) ≠ 0x18), by
    show decodeBasic ⟨0x9c, d, s, 1, 0⟩ = _
    simp [decodeBasic, Fields.cls, Fields.specific, decodeAlu, formDivX, accept, h]⟩

theorem FieldsDecode.smodAlu64K (d : RegNum) (imm : Imm) : FieldsDecode.Statement (.smodAlu64K d imm) := fun h =>
  ⟨(by decide : (0x97 : BitVec 8) ≠ 0x18), by
    show decodeBasic ⟨0x97, d, 0, 1, imm⟩ = _
    simp [decodeBasic, Fields.cls, Fields.specific, decodeAlu64, formDivK, accept, h]⟩

theorem FieldsDecode.smodAlu64X (d : RegNum) (s : RegNum) : FieldsDecode.Statement (.smodAlu64X d s) := fun h =>
  ⟨(by decide : (0x9f : BitVec 8) ≠ 0x18), by
    show decodeBasic ⟨0x9f, d, s, 1, 0⟩ = _
    simp [decodeBasic, Fields.cls, Fields.specific, decodeAlu64, formDivX, accept, h]⟩

theorem FieldsDecode.xorAluK (d : RegNum) (imm : Imm) : FieldsDecode.Statement (.xorAluK d imm) := fun h =>
  ⟨(by decide : (0xa4 : BitVec 8) ≠ 0x18), by
    show decodeBasic ⟨0xa4, d, 0, 0, imm⟩ = _
    simp [decodeBasic, Fields.cls, Fields.specific, decodeAlu, formK, accept, h]⟩

theorem FieldsDecode.xorAluX (d : RegNum) (s : RegNum) : FieldsDecode.Statement (.xorAluX d s) := fun h =>
  ⟨(by decide : (0xac : BitVec 8) ≠ 0x18), by
    show decodeBasic ⟨0xac, d, s, 0, 0⟩ = _
    simp [decodeBasic, Fields.cls, Fields.specific, decodeAlu, formX, accept, h]⟩

theorem FieldsDecode.xorAlu64K (d : RegNum) (imm : Imm) : FieldsDecode.Statement (.xorAlu64K d imm) := fun h =>
  ⟨(by decide : (0xa7 : BitVec 8) ≠ 0x18), by
    show decodeBasic ⟨0xa7, d, 0, 0, imm⟩ = _
    simp [decodeBasic, Fields.cls, Fields.specific, decodeAlu64, formK, accept, h]⟩

theorem FieldsDecode.xorAlu64X (d : RegNum) (s : RegNum) : FieldsDecode.Statement (.xorAlu64X d s) := fun h =>
  ⟨(by decide : (0xaf : BitVec 8) ≠ 0x18), by
    show decodeBasic ⟨0xaf, d, s, 0, 0⟩ = _
    simp [decodeBasic, Fields.cls, Fields.specific, decodeAlu64, formX, accept, h]⟩

theorem FieldsDecode.movAluK (d : RegNum) (imm : Imm) : FieldsDecode.Statement (.movAluK d imm) := fun h =>
  ⟨(by decide : (0xb4 : BitVec 8) ≠ 0x18), by
    show decodeBasic ⟨0xb4, d, 0, 0, imm⟩ = _
    simp [decodeBasic, Fields.cls, Fields.specific, decodeAlu, formK, accept, h]⟩

theorem FieldsDecode.movAluX (d : RegNum) (s : RegNum) : FieldsDecode.Statement (.movAluX d s) := fun h =>
  ⟨(by decide : (0xbc : BitVec 8) ≠ 0x18), by
    show decodeBasic ⟨0xbc, d, s, 0, 0⟩ = _
    simp [decodeBasic, Fields.cls, Fields.specific, decodeAlu, formMov32, accept, h]⟩

theorem FieldsDecode.movAlu64K (d : RegNum) (imm : Imm) : FieldsDecode.Statement (.movAlu64K d imm) := fun h =>
  ⟨(by decide : (0xb7 : BitVec 8) ≠ 0x18), by
    show decodeBasic ⟨0xb7, d, 0, 0, imm⟩ = _
    simp [decodeBasic, Fields.cls, Fields.specific, decodeAlu64, formK, accept, h]⟩

theorem FieldsDecode.movAlu64X (d : RegNum) (s : RegNum) : FieldsDecode.Statement (.movAlu64X d s) := fun h =>
  ⟨(by decide : (0xbf : BitVec 8) ≠ 0x18), by
    show decodeBasic ⟨0xbf, d, s, 0, 0⟩ = _
    simp [decodeBasic, Fields.cls, Fields.specific, decodeAlu64, formMov64, accept, h]⟩

theorem FieldsDecode.movsx8AluX (d : RegNum) (s : RegNum) : FieldsDecode.Statement (.movsx8AluX d s) := fun h =>
  ⟨(by decide : (0xbc : BitVec 8) ≠ 0x18), by
    show decodeBasic ⟨0xbc, d, s, 8, 0⟩ = _
    simp [decodeBasic, Fields.cls, Fields.specific, decodeAlu, formMov32, accept, h]⟩

theorem FieldsDecode.movsx16AluX (d : RegNum) (s : RegNum) : FieldsDecode.Statement (.movsx16AluX d s) := fun h =>
  ⟨(by decide : (0xbc : BitVec 8) ≠ 0x18), by
    show decodeBasic ⟨0xbc, d, s, 16, 0⟩ = _
    simp [decodeBasic, Fields.cls, Fields.specific, decodeAlu, formMov32, accept, h]⟩

theorem FieldsDecode.movsx8Alu64X (d : RegNum) (s : RegNum) : FieldsDecode.Statement (.movsx8Alu64X d s) := fun h =>
  ⟨(by decide : (0xbf : BitVec 8) ≠ 0x18), by
    show decodeBasic ⟨0xbf, d, s, 8, 0⟩ = _
    simp [decodeBasic, Fields.cls, Fields.specific, decodeAlu64, formMov64, accept, h]⟩

theorem FieldsDecode.movsx16Alu64X (d : RegNum) (s : RegNum) : FieldsDecode.Statement (.movsx16Alu64X d s) := fun h =>
  ⟨(by decide : (0xbf : BitVec 8) ≠ 0x18), by
    show decodeBasic ⟨0xbf, d, s, 16, 0⟩ = _
    simp [decodeBasic, Fields.cls, Fields.specific, decodeAlu64, formMov64, accept, h]⟩

theorem FieldsDecode.movsx32Alu64X (d : RegNum) (s : RegNum) : FieldsDecode.Statement (.movsx32Alu64X d s) := fun h =>
  ⟨(by decide : (0xbf : BitVec 8) ≠ 0x18), by
    show decodeBasic ⟨0xbf, d, s, 32, 0⟩ = _
    simp [decodeBasic, Fields.cls, Fields.specific, decodeAlu64, formMov64, accept, h]⟩

theorem FieldsDecode.arshAluK (d : RegNum) (imm : Imm) : FieldsDecode.Statement (.arshAluK d imm) := fun h =>
  ⟨(by decide : (0xc4 : BitVec 8) ≠ 0x18), by
    show decodeBasic ⟨0xc4, d, 0, 0, imm⟩ = _
    simp [decodeBasic, Fields.cls, Fields.specific, decodeAlu, formK, accept, h]⟩

theorem FieldsDecode.arshAluX (d : RegNum) (s : RegNum) : FieldsDecode.Statement (.arshAluX d s) := fun h =>
  ⟨(by decide : (0xcc : BitVec 8) ≠ 0x18), by
    show decodeBasic ⟨0xcc, d, s, 0, 0⟩ = _
    simp [decodeBasic, Fields.cls, Fields.specific, decodeAlu, formX, accept, h]⟩

theorem FieldsDecode.arshAlu64K (d : RegNum) (imm : Imm) : FieldsDecode.Statement (.arshAlu64K d imm) := fun h =>
  ⟨(by decide : (0xc7 : BitVec 8) ≠ 0x18), by
    show decodeBasic ⟨0xc7, d, 0, 0, imm⟩ = _
    simp [decodeBasic, Fields.cls, Fields.specific, decodeAlu64, formK, accept, h]⟩

theorem FieldsDecode.arshAlu64X (d : RegNum) (s : RegNum) : FieldsDecode.Statement (.arshAlu64X d s) := fun h =>
  ⟨(by decide : (0xcf : BitVec 8) ≠ 0x18), by
    show decodeBasic ⟨0xcf, d, s, 0, 0⟩ = _
    simp [decodeBasic, Fields.cls, Fields.specific, decodeAlu64, formX, accept, h]⟩

theorem FieldsDecode.endToLe16 (d : RegNum) : FieldsDecode.Statement (.endToLe16 d) := fun h =>
  ⟨(by decide : (0xd4 : BitVec 8) ≠ 0x18), by
    show decodeBasic ⟨0xd4, d, 0, 0, 0x10⟩ = _
    simp [decodeBasic, Fields.cls, Fields.specific, decodeAlu, formEnd, accept, h]⟩

theorem FieldsDecode.endToLe32 (d : RegNum) : FieldsDecode.Statement (.endToLe32 d) := fun h =>
  ⟨(by decide : (0xd4 : BitVec 8) ≠ 0x18), by
    show decodeBasic ⟨0xd4, d, 0, 0, 0x20⟩ = _
    simp [decodeBasic, Fields.cls, Fields.specific, decodeAlu, formEnd, accept, h]⟩

theorem FieldsDecode.endToLe64 (d : RegNum) : FieldsDecode.Statement (.endToLe64 d) := fun h =>
  ⟨(by decide : (0xd4 : BitVec 8) ≠ 0x18), by
    show decodeBasic ⟨0xd4, d, 0, 0, 0x40⟩ = _
    simp [decodeBasic, Fields.cls, Fields.specific, decodeAlu, formEnd, accept, h]⟩

theorem FieldsDecode.endToBe16 (d : RegNum) : FieldsDecode.Statement (.endToBe16 d) := fun h =>
  ⟨(by decide : (0xdc : BitVec 8) ≠ 0x18), by
    show decodeBasic ⟨0xdc, d, 0, 0, 0x10⟩ = _
    simp [decodeBasic, Fields.cls, Fields.specific, decodeAlu, formEnd, accept, h]⟩

theorem FieldsDecode.endToBe32 (d : RegNum) : FieldsDecode.Statement (.endToBe32 d) := fun h =>
  ⟨(by decide : (0xdc : BitVec 8) ≠ 0x18), by
    show decodeBasic ⟨0xdc, d, 0, 0, 0x20⟩ = _
    simp [decodeBasic, Fields.cls, Fields.specific, decodeAlu, formEnd, accept, h]⟩

theorem FieldsDecode.endToBe64 (d : RegNum) : FieldsDecode.Statement (.endToBe64 d) := fun h =>
  ⟨(by decide : (0xdc : BitVec 8) ≠ 0x18), by
    show decodeBasic ⟨0xdc, d, 0, 0, 0x40⟩ = _
    simp [decodeBasic, Fields.cls, Fields.specific, decodeAlu, formEnd, accept, h]⟩

theorem FieldsDecode.bswap16 (d : RegNum) : FieldsDecode.Statement (.bswap16 d) := fun h =>
  ⟨(by decide : (0xd7 : BitVec 8) ≠ 0x18), by
    show decodeBasic ⟨0xd7, d, 0, 0, 0x10⟩ = _
    simp [decodeBasic, Fields.cls, Fields.specific, decodeAlu64, formEnd, accept, h]⟩

theorem FieldsDecode.bswap32 (d : RegNum) : FieldsDecode.Statement (.bswap32 d) := fun h =>
  ⟨(by decide : (0xd7 : BitVec 8) ≠ 0x18), by
    show decodeBasic ⟨0xd7, d, 0, 0, 0x20⟩ = _
    simp [decodeBasic, Fields.cls, Fields.specific, decodeAlu64, formEnd, accept, h]⟩

theorem FieldsDecode.bswap64 (d : RegNum) : FieldsDecode.Statement (.bswap64 d) := fun h =>
  ⟨(by decide : (0xd7 : BitVec 8) ≠ 0x18), by
    show decodeBasic ⟨0xd7, d, 0, 0, 0x40⟩ = _
    simp [decodeBasic, Fields.cls, Fields.specific, decodeAlu64, formEnd, accept, h]⟩

theorem FieldsDecode.jaJmp (off : Offset) : FieldsDecode.Statement (.jaJmp off) := fun _ =>
  ⟨(by decide : (0x05 : BitVec 8) ≠ 0x18), by
    show decodeBasic ⟨0x05, 0, 0, off, 0⟩ = _
    simp [decodeBasic, Fields.cls, Fields.specific, decodeJmp, accept, Instr.wf, Instr.regFields]⟩

theorem FieldsDecode.jaJmp32 (imm : Imm) : FieldsDecode.Statement (.jaJmp32 imm) := fun _ =>
  ⟨(by decide : (0x06 : BitVec 8) ≠ 0x18), by
    show decodeBasic ⟨0x06, 0, 0, 0, imm⟩ = _
    simp [decodeBasic, Fields.cls, Fields.specific, decodeJmp32, accept, Instr.wf, Instr.regFields]⟩

theorem FieldsDecode.jeqJmpK (d : RegNum) (off : Offset) (imm : Imm) : FieldsDecode.Statement (.jeqJmpK d off imm) := fun h =>
  ⟨(by decide : (0x15 : BitVec 8) ≠ 0x18), by
    show decodeBasic ⟨0x15, d, 0, off, imm⟩ = _
    simp [decodeBasic, Fields.cls, Fields.specific, decodeJmp, formJumpK, accept, h]⟩

theorem FieldsDecode.jeqJmpX (d : RegNum) (s : RegNum) (off : Offset) : FieldsDecode.Statement (.jeqJmpX d s off) := fun h =>
  ⟨(by decide : (0x1d : BitVec 8) ≠ 0x18), by
    show decodeBasic ⟨0x1d, d, s, off, 0⟩ = _
    simp [decodeBasic, Fields.cls, Fields.specific, decodeJmp, formMemX, accept, h]⟩

theorem FieldsDecode.jeqJmp32K (d : RegNum) (off : Offset) (imm : Imm) : FieldsDecode.Statement (.jeqJmp32K d off imm) := fun h =>
  ⟨(by decide : (0x16 : BitVec 8) ≠ 0x18), by
    show decodeBasic ⟨0x16, d, 0, off, imm⟩ = _
    simp [decodeBasic, Fields.cls, Fields.specific, decodeJmp32, formJumpK, accept, h]⟩

theorem FieldsDecode.jeqJmp32X (d : RegNum) (s : RegNum) (off : Offset) : FieldsDecode.Statement (.jeqJmp32X d s off) := fun h =>
  ⟨(by decide : (0x1e : BitVec 8) ≠ 0x18), by
    show decodeBasic ⟨0x1e, d, s, off, 0⟩ = _
    simp [decodeBasic, Fields.cls, Fields.specific, decodeJmp32, formMemX, accept, h]⟩

theorem FieldsDecode.jgtJmpK (d : RegNum) (off : Offset) (imm : Imm) : FieldsDecode.Statement (.jgtJmpK d off imm) := fun h =>
  ⟨(by decide : (0x25 : BitVec 8) ≠ 0x18), by
    show decodeBasic ⟨0x25, d, 0, off, imm⟩ = _
    simp [decodeBasic, Fields.cls, Fields.specific, decodeJmp, formJumpK, accept, h]⟩

theorem FieldsDecode.jgtJmpX (d : RegNum) (s : RegNum) (off : Offset) : FieldsDecode.Statement (.jgtJmpX d s off) := fun h =>
  ⟨(by decide : (0x2d : BitVec 8) ≠ 0x18), by
    show decodeBasic ⟨0x2d, d, s, off, 0⟩ = _
    simp [decodeBasic, Fields.cls, Fields.specific, decodeJmp, formMemX, accept, h]⟩

theorem FieldsDecode.jgtJmp32K (d : RegNum) (off : Offset) (imm : Imm) : FieldsDecode.Statement (.jgtJmp32K d off imm) := fun h =>
  ⟨(by decide : (0x26 : BitVec 8) ≠ 0x18), by
    show decodeBasic ⟨0x26, d, 0, off, imm⟩ = _
    simp [decodeBasic, Fields.cls, Fields.specific, decodeJmp32, formJumpK, accept, h]⟩

theorem FieldsDecode.jgtJmp32X (d : RegNum) (s : RegNum) (off : Offset) : FieldsDecode.Statement (.jgtJmp32X d s off) := fun h =>
  ⟨(by decide : (0x2e : BitVec 8) ≠ 0x18), by
    show decodeBasic ⟨0x2e, d, s, off, 0⟩ = _
    simp [decodeBasic, Fields.cls, Fields.specific, decodeJmp32, formMemX, accept, h]⟩

theorem FieldsDecode.jgeJmpK (d : RegNum) (off : Offset) (imm : Imm) : FieldsDecode.Statement (.jgeJmpK d off imm) := fun h =>
  ⟨(by decide : (0x35 : BitVec 8) ≠ 0x18), by
    show decodeBasic ⟨0x35, d, 0, off, imm⟩ = _
    simp [decodeBasic, Fields.cls, Fields.specific, decodeJmp, formJumpK, accept, h]⟩

theorem FieldsDecode.jgeJmpX (d : RegNum) (s : RegNum) (off : Offset) : FieldsDecode.Statement (.jgeJmpX d s off) := fun h =>
  ⟨(by decide : (0x3d : BitVec 8) ≠ 0x18), by
    show decodeBasic ⟨0x3d, d, s, off, 0⟩ = _
    simp [decodeBasic, Fields.cls, Fields.specific, decodeJmp, formMemX, accept, h]⟩

theorem FieldsDecode.jgeJmp32K (d : RegNum) (off : Offset) (imm : Imm) : FieldsDecode.Statement (.jgeJmp32K d off imm) := fun h =>
  ⟨(by decide : (0x36 : BitVec 8) ≠ 0x18), by
    show decodeBasic ⟨0x36, d, 0, off, imm⟩ = _
    simp [decodeBasic, Fields.cls, Fields.specific, decodeJmp32, formJumpK, accept, h]⟩

theorem FieldsDecode.jgeJmp32X (d : RegNum) (s : RegNum) (off : Offset) : FieldsDecode.Statement (.jgeJmp32X d s off) := fun h =>
  ⟨(by decide : (0x3e : BitVec 8) ≠ 0x18), by
    show decodeBasic ⟨0x3e, d, s, off, 0⟩ = _
    simp [decodeBasic, Fields.cls, Fields.specific, decodeJmp32, formMemX, accept, h]⟩

theorem FieldsDecode.jsetJmpK (d : RegNum) (off : Offset) (imm : Imm) : FieldsDecode.Statement (.jsetJmpK d off imm) := fun h =>
  ⟨(by decide : (0x45 : BitVec 8) ≠ 0x18), by
    show decodeBasic ⟨0x45, d, 0, off, imm⟩ = _
    simp [decodeBasic, Fields.cls, Fields.specific, decodeJmp, formJumpK, accept, h]⟩

theorem FieldsDecode.jsetJmpX (d : RegNum) (s : RegNum) (off : Offset) : FieldsDecode.Statement (.jsetJmpX d s off) := fun h =>
  ⟨(by decide : (0x4d : BitVec 8) ≠ 0x18), by
    show decodeBasic ⟨0x4d, d, s, off, 0⟩ = _
    simp [decodeBasic, Fields.cls, Fields.specific, decodeJmp, formMemX, accept, h]⟩

theorem FieldsDecode.jsetJmp32K (d : RegNum) (off : Offset) (imm : Imm) : FieldsDecode.Statement (.jsetJmp32K d off imm) := fun h =>
  ⟨(by decide : (0x46 : BitVec 8) ≠ 0x18), by
    show decodeBasic ⟨0x46, d, 0, off, imm⟩ = _
    simp [decodeBasic, Fields.cls, Fields.specific, decodeJmp32, formJumpK, accept, h]⟩

theorem FieldsDecode.jsetJmp32X (d : RegNum) (s : RegNum) (off : Offset) : FieldsDecode.Statement (.jsetJmp32X d s off) := fun h =>
  ⟨(by decide : (0x4e : BitVec 8) ≠ 0x18), by
    show decodeBasic ⟨0x4e, d, s, off, 0⟩ = _
    simp [decodeBasic, Fields.cls, Fields.specific, decodeJmp32, formMemX, accept, h]⟩

theorem FieldsDecode.jneJmpK (d : RegNum) (off : Offset) (imm : Imm) : FieldsDecode.Statement (.jneJmpK d off imm) := fun h =>
  ⟨(by decide : (0x55 : BitVec 8) ≠ 0x18), by
    show decodeBasic ⟨0x55, d, 0, off, imm⟩ = _
    simp [decodeBasic, Fields.cls, Fields.specific, decodeJmp, formJumpK, accept, h]⟩

theorem FieldsDecode.jneJmpX (d : RegNum) (s : RegNum) (off : Offset) : FieldsDecode.Statement (.jneJmpX d s off) := fun h =>
  ⟨(by decide : (0x5d : BitVec 8) ≠ 0x18), by
    show decodeBasic ⟨0x5d, d, s, off, 0⟩ = _
    simp [decodeBasic, Fields.cls, Fields.specific, decodeJmp, formMemX, accept, h]⟩

theorem FieldsDecode.jneJmp32K (d : RegNum) (off : Offset) (imm : Imm) : FieldsDecode.Statement (.jneJmp32K d off imm) := fun h =>
  ⟨(by decide : (0x56 : BitVec 8) ≠ 0x18), by
    show decodeBasic ⟨0x56, d, 0, off, imm⟩ = _
    simp [decodeBasic, Fields.cls, Fields.specific, decodeJmp32, formJumpK, accept, h]⟩

theorem FieldsDecode.jneJmp32X (d : RegNum) (s : RegNum) (off : Offset) : FieldsDecode.Statement (.jneJmp32X d s off) := fun h =>
  ⟨(by decide : (0x5e : BitVec 8) ≠ 0x18), by
    show decodeBasic ⟨0x5e, d, s, off, 0⟩ = _
    simp [decodeBasic, Fields.cls, Fields.specific, decodeJmp32, formMemX, accept, h]⟩

theorem FieldsDecode.jsgtJmpK (d : RegNum) (off : Offset) (imm : Imm) : FieldsDecode.Statement (.jsgtJmpK d off imm) := fun h =>
  ⟨(by decide : (0x65 : BitVec 8) ≠ 0x18), by
    show decodeBasic ⟨0x65, d, 0, off, imm⟩ = _
    simp [decodeBasic, Fields.cls, Fields.specific, decodeJmp, formJumpK, accept, h]⟩

theorem FieldsDecode.jsgtJmpX (d : RegNum) (s : RegNum) (off : Offset) : FieldsDecode.Statement (.jsgtJmpX d s off) := fun h =>
  ⟨(by decide : (0x6d : BitVec 8) ≠ 0x18), by
    show decodeBasic ⟨0x6d, d, s, off, 0⟩ = _
    simp [decodeBasic, Fields.cls, Fields.specific, decodeJmp, formMemX, accept, h]⟩

theorem FieldsDecode.jsgtJmp32K (d : RegNum) (off : Offset) (imm : Imm) : FieldsDecode.Statement (.jsgtJmp32K d off imm) := fun h =>
  ⟨(by decide : (0x66 : BitVec 8) ≠ 0x18), by
    show decodeBasic ⟨0x66, d, 0, off, imm⟩ = _
    simp [decodeBasic, Fields.cls, Fields.specific, decodeJmp32, formJumpK, accept, h]⟩

theorem FieldsDecode.jsgtJmp32X (d : RegNum) (s : RegNum) (off : Offset) : FieldsDecode.Statement (.jsgtJmp32X d s off) := fun h =>
  ⟨(by decide : (0x6e : BitVec 8) ≠ 0x18), by
    show decodeBasic ⟨0x6e, d, s, off, 0⟩ = _
    simp [decodeBasic, Fields.cls, Fields.specific, decodeJmp32, formMemX, accept, h]⟩

theorem FieldsDecode.jsgeJmpK (d : RegNum) (off : Offset) (imm : Imm) : FieldsDecode.Statement (.jsgeJmpK d off imm) := fun h =>
  ⟨(by decide : (0x75 : BitVec 8) ≠ 0x18), by
    show decodeBasic ⟨0x75, d, 0, off, imm⟩ = _
    simp [decodeBasic, Fields.cls, Fields.specific, decodeJmp, formJumpK, accept, h]⟩

theorem FieldsDecode.jsgeJmpX (d : RegNum) (s : RegNum) (off : Offset) : FieldsDecode.Statement (.jsgeJmpX d s off) := fun h =>
  ⟨(by decide : (0x7d : BitVec 8) ≠ 0x18), by
    show decodeBasic ⟨0x7d, d, s, off, 0⟩ = _
    simp [decodeBasic, Fields.cls, Fields.specific, decodeJmp, formMemX, accept, h]⟩

theorem FieldsDecode.jsgeJmp32K (d : RegNum) (off : Offset) (imm : Imm) : FieldsDecode.Statement (.jsgeJmp32K d off imm) := fun h =>
  ⟨(by decide : (0x76 : BitVec 8) ≠ 0x18), by
    show decodeBasic ⟨0x76, d, 0, off, imm⟩ = _
    simp [decodeBasic, Fields.cls, Fields.specific, decodeJmp32, formJumpK, accept, h]⟩

theorem FieldsDecode.jsgeJmp32X (d : RegNum) (s : RegNum) (off : Offset) : FieldsDecode.Statement (.jsgeJmp32X d s off) := fun h =>
  ⟨(by decide : (0x7e : BitVec 8) ≠ 0x18), by
    show decodeBasic ⟨0x7e, d, s, off, 0⟩ = _
    simp [decodeBasic, Fields.cls, Fields.specific, decodeJmp32, formMemX, accept, h]⟩

theorem FieldsDecode.jltJmpK (d : RegNum) (off : Offset) (imm : Imm) : FieldsDecode.Statement (.jltJmpK d off imm) := fun h =>
  ⟨(by decide : (0xa5 : BitVec 8) ≠ 0x18), by
    show decodeBasic ⟨0xa5, d, 0, off, imm⟩ = _
    simp [decodeBasic, Fields.cls, Fields.specific, decodeJmp, formJumpK, accept, h]⟩

theorem FieldsDecode.jltJmpX (d : RegNum) (s : RegNum) (off : Offset) : FieldsDecode.Statement (.jltJmpX d s off) := fun h =>
  ⟨(by decide : (0xad : BitVec 8) ≠ 0x18), by
    show decodeBasic ⟨0xad, d, s, off, 0⟩ = _
    simp [decodeBasic, Fields.cls, Fields.specific, decodeJmp, formMemX, accept, h]⟩

theorem FieldsDecode.jltJmp32K (d : RegNum) (off : Offset) (imm : Imm) : FieldsDecode.Statement (.jltJmp32K d off imm) := fun h =>
  ⟨(by decide : (0xa6 : BitVec 8) ≠ 0x18), by
    show decodeBasic ⟨0xa6, d, 0, off, imm⟩ = _
    simp [decodeBasic, Fields.cls, Fields.specific, decodeJmp32, formJumpK, accept, h]⟩

theorem FieldsDecode.jltJmp32X (d : RegNum) (s : RegNum) (off : Offset) : FieldsDecode.Statement (.jltJmp32X d s off) := fun h =>
  ⟨(by decide : (0xae : BitVec 8) ≠ 0x18), by
    show decodeBasic ⟨0xae, d, s, off, 0⟩ = _
    simp [decodeBasic, Fields.cls, Fields.specific, decodeJmp32, formMemX, accept, h]⟩

theorem FieldsDecode.jleJmpK (d : RegNum) (off : Offset) (imm : Imm) : FieldsDecode.Statement (.jleJmpK d off imm) := fun h =>
  ⟨(by decide : (0xb5 : BitVec 8) ≠ 0x18), by
    show decodeBasic ⟨0xb5, d, 0, off, imm⟩ = _
    simp [decodeBasic, Fields.cls, Fields.specific, decodeJmp, formJumpK, accept, h]⟩

theorem FieldsDecode.jleJmpX (d : RegNum) (s : RegNum) (off : Offset) : FieldsDecode.Statement (.jleJmpX d s off) := fun h =>
  ⟨(by decide : (0xbd : BitVec 8) ≠ 0x18), by
    show decodeBasic ⟨0xbd, d, s, off, 0⟩ = _
    simp [decodeBasic, Fields.cls, Fields.specific, decodeJmp, formMemX, accept, h]⟩

theorem FieldsDecode.jleJmp32K (d : RegNum) (off : Offset) (imm : Imm) : FieldsDecode.Statement (.jleJmp32K d off imm) := fun h =>
  ⟨(by decide : (0xb6 : BitVec 8) ≠ 0x18), by
    show decodeBasic ⟨0xb6, d, 0, off, imm⟩ = _
    simp [decodeBasic, Fields.cls, Fields.specific, decodeJmp32, formJumpK, accept, h]⟩

theorem FieldsDecode.jleJmp32X (d : RegNum) (s : RegNum) (off : Offset) : FieldsDecode.Statement (.jleJmp32X d s off) := fun h =>
  ⟨(by decide : (0xbe : BitVec 8) ≠ 0x18), by
    show decodeBasic ⟨0xbe, d, s, off, 0⟩ = _
    simp [decodeBasic, Fields.cls, Fields.specific, decodeJmp32, formMemX, accept, h]⟩

theorem FieldsDecode.jsltJmpK (d : RegNum) (off : Offset) (imm : Imm) : FieldsDecode.Statement (.jsltJmpK d off imm) := fun h =>
  ⟨(by decide : (0xc5 : BitVec 8) ≠ 0x18), by
    show decodeBasic ⟨0xc5, d, 0, off, imm⟩ = _
    simp [decodeBasic, Fields.cls, Fields.specific, decodeJmp, formJumpK, accept, h]⟩

theorem FieldsDecode.jsltJmpX (d : RegNum) (s : RegNum) (off : Offset) : FieldsDecode.Statement (.jsltJmpX d s off) := fun h =>
  ⟨(by decide : (0xcd : BitVec 8) ≠ 0x18), by
    show decodeBasic ⟨0xcd, d, s, off, 0⟩ = _
    simp [decodeBasic, Fields.cls, Fields.specific, decodeJmp, formMemX, accept, h]⟩

theorem FieldsDecode.jsltJmp32K (d : RegNum) (off : Offset) (imm : Imm) : FieldsDecode.Statement (.jsltJmp32K d off imm) := fun h =>
  ⟨(by decide : (0xc6 : BitVec 8) ≠ 0x18), by
    show decodeBasic ⟨0xc6, d, 0, off, imm⟩ = _
    simp [decodeBasic, Fields.cls, Fields.specific, decodeJmp32, formJumpK, accept, h]⟩

theorem FieldsDecode.jsltJmp32X (d : RegNum) (s : RegNum) (off : Offset) : FieldsDecode.Statement (.jsltJmp32X d s off) := fun h =>
  ⟨(by decide : (0xce : BitVec 8) ≠ 0x18), by
    show decodeBasic ⟨0xce, d, s, off, 0⟩ = _
    simp [decodeBasic, Fields.cls, Fields.specific, decodeJmp32, formMemX, accept, h]⟩

theorem FieldsDecode.jsleJmpK (d : RegNum) (off : Offset) (imm : Imm) : FieldsDecode.Statement (.jsleJmpK d off imm) := fun h =>
  ⟨(by decide : (0xd5 : BitVec 8) ≠ 0x18), by
    show decodeBasic ⟨0xd5, d, 0, off, imm⟩ = _
    simp [decodeBasic, Fields.cls, Fields.specific, decodeJmp, formJumpK, accept, h]⟩

theorem FieldsDecode.jsleJmpX (d : RegNum) (s : RegNum) (off : Offset) : FieldsDecode.Statement (.jsleJmpX d s off) := fun h =>
  ⟨(by decide : (0xdd : BitVec 8) ≠ 0x18), by
    show decodeBasic ⟨0xdd, d, s, off, 0⟩ = _
    simp [decodeBasic, Fields.cls, Fields.specific, decodeJmp, formMemX, accept, h]⟩

theorem FieldsDecode.jsleJmp32K (d : RegNum) (off : Offset) (imm : Imm) : FieldsDecode.Statement (.jsleJmp32K d off imm) := fun h =>
  ⟨(by decide : (0xd6 : BitVec 8) ≠ 0x18), by
    show decodeBasic ⟨0xd6, d, 0, off, imm⟩ = _
    simp [decodeBasic, Fields.cls, Fields.specific, decodeJmp32, formJumpK, accept, h]⟩

theorem FieldsDecode.jsleJmp32X (d : RegNum) (s : RegNum) (off : Offset) : FieldsDecode.Statement (.jsleJmp32X d s off) := fun h =>
  ⟨(by decide : (0xde : BitVec 8) ≠ 0x18), by
    show decodeBasic ⟨0xde, d, s, off, 0⟩ = _
    simp [decodeBasic, Fields.cls, Fields.specific, decodeJmp32, formMemX, accept, h]⟩

theorem FieldsDecode.callHelper (imm : Imm) : FieldsDecode.Statement (.callHelper imm) := fun _ =>
  ⟨(by decide : (0x85 : BitVec 8) ≠ 0x18), by
    show decodeBasic ⟨0x85, 0, 0, 0, imm⟩ = _
    simp [decodeBasic, Fields.cls, Fields.specific, decodeJmp, formCall, accept, Instr.wf, Instr.regFields]⟩

theorem FieldsDecode.callLocal (imm : Imm) : FieldsDecode.Statement (.callLocal imm) := fun _ =>
  ⟨(by decide : (0x85 : BitVec 8) ≠ 0x18), by
    show decodeBasic ⟨0x85, 0, 1, 0, imm⟩ = _
    simp [decodeBasic, Fields.cls, Fields.specific, decodeJmp, formCall, accept, Instr.wf, Instr.regFields]⟩

theorem FieldsDecode.callHelperBtf (imm : Imm) : FieldsDecode.Statement (.callHelperBtf imm) := fun _ =>
  ⟨(by decide : (0x85 : BitVec 8) ≠ 0x18), by
    show decodeBasic ⟨0x85, 0, 2, 0, imm⟩ = _
    simp [decodeBasic, Fields.cls, Fields.specific, decodeJmp, formCall, accept, Instr.wf, Instr.regFields]⟩

theorem FieldsDecode.exit : FieldsDecode.Statement .exit := fun _ =>
  ⟨(by decide : (0x95 : BitVec 8) ≠ 0x18), by
    show decodeBasic ⟨0x95, 0, 0, 0, 0⟩ = _
    simp [decodeBasic, Fields.cls, Fields.specific, decodeJmp, accept, Instr.wf, Instr.regFields]⟩

theorem FieldsDecode.ldxMemB (d : RegNum) (s : RegNum) (off : Offset) : FieldsDecode.Statement (.ldxMemB d s off) := fun h =>
  ⟨(by decide : (0x71 : BitVec 8) ≠ 0x18), by
    show decodeBasic ⟨0x71, d, s, off, 0⟩ = _
    simp [decodeBasic, Fields.cls, Fields.specific, decodeLdx, formMemX, accept, h]⟩

theorem FieldsDecode.ldxMemH (d : RegNum) (s : RegNum) (off : Offset) : FieldsDecode.Statement (.ldxMemH d s off) := fun h =>
  ⟨(by decide : (0x69 : BitVec 8) ≠ 0x18), by
    show decodeBasic ⟨0x69, d, s, off, 0⟩ = _
    simp [decodeBasic, Fields.cls, Fields.specific, decodeLdx, formMemX, accept, h]⟩

theorem FieldsDecode.ldxMemW (d : RegNum) (s : RegNum) (off : Offset) : FieldsDecode.Statement (.ldxMemW d s off) := fun h =>
  ⟨(by decide : (0x61 : BitVec 8) ≠ 0x18), by
    show decodeBasic ⟨0x61, d, s, off, 0⟩ = _
    simp [decodeBasic, Fields.cls, Fields.specific, decodeLdx, formMemX, accept, h]⟩

theorem FieldsDecode.ldxMemDw (d : RegNum) (s : RegNum) (off : Offset) : FieldsDecode.Statement (.ldxMemDw d s off) := fun h =>
  ⟨(by decide : (0x79 : BitVec 8) ≠ 0x18), by
    show decodeBasic ⟨0x79, d, s, off, 0⟩ = _
    simp [decodeBasic, Fields.cls, Fields.specific, decodeLdx, formMemX, accept, h]⟩

theorem FieldsDecode.stMemB (d : RegNum) (off : Offset) (imm : Imm) : FieldsDecode.Statement (.stMemB d off imm) := fun h =>
  ⟨(by decide : (0x72 : BitVec 8) ≠ 0x18), by
    show decodeBasic ⟨0x72, d, 0, off, imm⟩ = _
    simp [decodeBasic, Fields.cls, Fields.specific, decodeSt, formSt, accept, h]⟩

theorem FieldsDecode.stMemH (d : RegNum) (off : Offset) (imm : Imm) : FieldsDecode.Statement (.stMemH d off imm) := fun h =>
  ⟨(by decide : (0x6a : BitVec 8) ≠ 0x18), by
    show decodeBasic ⟨0x6a, d, 0, off, imm⟩ = _
    simp [decodeBasic, Fields.cls, Fields.specific, decodeSt, formSt, accept, h]⟩

theorem FieldsDecode.stMemW (d : RegNum) (off : Offset) (imm : Imm) : FieldsDecode.Statement (.stMemW d off imm) := fun h =>
  ⟨(by decide : (0x62 : BitVec 8) ≠ 0x18), by
    show decodeBasic ⟨0x62, d, 0, off, imm⟩ = _
    simp [decodeBasic, Fields.cls, Fields.specific, decodeSt, formSt, accept, h]⟩

theorem FieldsDecode.stMemDw (d : RegNum) (off : Offset) (imm : Imm) : FieldsDecode.Statement (.stMemDw d off imm) := fun h =>
  ⟨(by decide : (0x7a : BitVec 8) ≠ 0x18), by
    show decodeBasic ⟨0x7a, d, 0, off, imm⟩ = _
    simp [decodeBasic, Fields.cls, Fields.specific, decodeSt, formSt, accept, h]⟩

theorem FieldsDecode.stxMemB (d : RegNum) (s : RegNum) (off : Offset) : FieldsDecode.Statement (.stxMemB d s off) := fun h =>
  ⟨(by decide : (0x73 : BitVec 8) ≠ 0x18), by
    show decodeBasic ⟨0x73, d, s, off, 0⟩ = _
    simp [decodeBasic, Fields.cls, Fields.specific, decodeStx, formMemX, accept, h]⟩

theorem FieldsDecode.stxMemH (d : RegNum) (s : RegNum) (off : Offset) : FieldsDecode.Statement (.stxMemH d s off) := fun h =>
  ⟨(by decide : (0x6b : BitVec 8) ≠ 0x18), by
    show decodeBasic ⟨0x6b, d, s, off, 0⟩ = _
    simp [decodeBasic, Fields.cls, Fields.specific, decodeStx, formMemX, accept, h]⟩

theorem FieldsDecode.stxMemW (d : RegNum) (s : RegNum) (off : Offset) : FieldsDecode.Statement (.stxMemW d s off) := fun h =>
  ⟨(by decide : (0x63 : BitVec 8) ≠ 0x18), by
    show decodeBasic ⟨0x63, d, s, off, 0⟩ = _
    simp [decodeBasic, Fields.cls, Fields.specific, decodeStx, formMemX, accept, h]⟩

theorem FieldsDecode.stxMemDw (d : RegNum) (s : RegNum) (off : Offset) : FieldsDecode.Statement (.stxMemDw d s off) := fun h =>
  ⟨(by decide : (0x7b : BitVec 8) ≠ 0x18), by
    show decodeBasic ⟨0x7b, d, s, off, 0⟩ = _
    simp [decodeBasic, Fields.cls, Fields.specific, decodeStx, formMemX, accept, h]⟩

theorem FieldsDecode.ldxMemsxB (d : RegNum) (s : RegNum) (off : Offset) : FieldsDecode.Statement (.ldxMemsxB d s off) := fun h =>
  ⟨(by decide : (0x91 : BitVec 8) ≠ 0x18), by
    show decodeBasic ⟨0x91, d, s, off, 0⟩ = _
    simp [decodeBasic, Fields.cls, Fields.specific, decodeLdx, formMemX, accept, h]⟩

theorem FieldsDecode.ldxMemsxH (d : RegNum) (s : RegNum) (off : Offset) : FieldsDecode.Statement (.ldxMemsxH d s off) := fun h =>
  ⟨(by decide : (0x89 : BitVec 8) ≠ 0x18), by
    show decodeBasic ⟨0x89, d, s, off, 0⟩ = _
    simp [decodeBasic, Fields.cls, Fields.specific, decodeLdx, formMemX, accept, h]⟩

theorem FieldsDecode.ldxMemsxW (d : RegNum) (s : RegNum) (off : Offset) : FieldsDecode.Statement (.ldxMemsxW d s off) := fun h =>
  ⟨(by decide : (0x81 : BitVec 8) ≠ 0x18), by
    show decodeBasic ⟨0x81, d, s, off, 0⟩ = _
    simp [decodeBasic, Fields.cls, Fields.specific, decodeLdx, formMemX, accept, h]⟩

theorem FieldsDecode.atomicAddW (d : RegNum) (s : RegNum) (off : Offset) : FieldsDecode.Statement (.atomicAddW d s off) := fun h =>
  ⟨(by decide : (0xc3 : BitVec 8) ≠ 0x18), by
    show decodeBasic ⟨0xc3, d, s, off, 0⟩ = _
    simp [decodeBasic, Fields.cls, Fields.specific, decodeStx, formAtomic, accept, h]⟩

theorem FieldsDecode.atomicFetchAddW (d : RegNum) (s : RegNum) (off : Offset) : FieldsDecode.Statement (.atomicFetchAddW d s off) := fun h =>
  ⟨(by decide : (0xc3 : BitVec 8) ≠ 0x18), by
    show decodeBasic ⟨0xc3, d, s, off, 0x01⟩ = _
    simp [decodeBasic, Fields.cls, Fields.specific, decodeStx, formAtomic, accept, h]⟩

theorem FieldsDecode.atomicOrW (d : RegNum) (s : RegNum) (off : Offset) : FieldsDecode.Statement (.atomicOrW d s off) := fun h =>
  ⟨(by decide : (0xc3 : BitVec 8) ≠ 0x18), by
    show decodeBasic ⟨0xc3, d, s, off, 0x40⟩ = _
    simp [decodeBasic, Fields.cls, Fields.specific, decodeStx, formAtomic, accept, h]⟩

theorem FieldsDecode.atomicFetchOrW (d : RegNum) (s : RegNum) (off : Offset) : FieldsDecode.Statement (.atomicFetchOrW d s off) := fun h =>
  ⟨(by decide : (0xc3 : BitVec 8) ≠ 0x18), by
    show decodeBasic ⟨0xc3, d, s, off, 0x41⟩ = _
    simp [decodeBasic, Fields.cls, Fields.specific, decodeStx, formAtomic, accept, h]⟩

theorem FieldsDecode.atomicAndW (d : RegNum) (s : RegNum) (off : Offset) : FieldsDecode.Statement (.atomicAndW d s off) := fun h =>
  ⟨(by decide : (0xc3 : BitVec 8) ≠ 0x18), by
    show decodeBasic ⟨0xc3, d, s, off, 0x50⟩ = _
    simp [decodeBasic, Fields.cls, Fields.specific, decodeStx, formAtomic, accept, h]⟩

theorem FieldsDecode.atomicFetchAndW (d : RegNum) (s : RegNum) (off : Offset) : FieldsDecode.Statement (.atomicFetchAndW d s off) := fun h =>
  ⟨(by decide : (0xc3 : BitVec 8) ≠ 0x18), by
    show decodeBasic ⟨0xc3, d, s, off, 0x51⟩ = _
    simp [decodeBasic, Fields.cls, Fields.specific, decodeStx, formAtomic, accept, h]⟩

theorem FieldsDecode.atomicXorW (d : RegNum) (s : RegNum) (off : Offset) : FieldsDecode.Statement (.atomicXorW d s off) := fun h =>
  ⟨(by decide : (0xc3 : BitVec 8) ≠ 0x18), by
    show decodeBasic ⟨0xc3, d, s, off, 0xa0⟩ = _
    simp [decodeBasic, Fields.cls, Fields.specific, decodeStx, formAtomic, accept, h]⟩

theorem FieldsDecode.atomicFetchXorW (d : RegNum) (s : RegNum) (off : Offset) : FieldsDecode.Statement (.atomicFetchXorW d s off) := fun h =>
  ⟨(by decide : (0xc3 : BitVec 8) ≠ 0x18), by
    show decodeBasic ⟨0xc3, d, s, off, 0xa1⟩ = _
    simp [decodeBasic, Fields.cls, Fields.specific, decodeStx, formAtomic, accept, h]⟩

theorem FieldsDecode.atomicXchgW (d : RegNum) (s : RegNum) (off : Offset) : FieldsDecode.Statement (.atomicXchgW d s off) := fun h =>
  ⟨(by decide : (0xc3 : BitVec 8) ≠ 0x18), by
    show decodeBasic ⟨0xc3, d, s, off, 0xe1⟩ = _
    simp [decodeBasic, Fields.cls, Fields.specific, decodeStx, formAtomic, accept, h]⟩

theorem FieldsDecode.atomicCmpxchgW (d : RegNum) (s : RegNum) (off : Offset) : FieldsDecode.Statement (.atomicCmpxchgW d s off) := fun h =>
  ⟨(by decide : (0xc3 : BitVec 8) ≠ 0x18), by
    show decodeBasic ⟨0xc3, d, s, off, 0xf1⟩ = _
    simp [decodeBasic, Fields.cls, Fields.specific, decodeStx, formAtomic, accept, h]⟩

theorem FieldsDecode.atomicAddDw (d : RegNum) (s : RegNum) (off : Offset) : FieldsDecode.Statement (.atomicAddDw d s off) := fun h =>
  ⟨(by decide : (0xdb : BitVec 8) ≠ 0x18), by
    show decodeBasic ⟨0xdb, d, s, off, 0⟩ = _
    simp [decodeBasic, Fields.cls, Fields.specific, decodeStx, formAtomic, accept, h]⟩

theorem FieldsDecode.atomicFetchAddDw (d : RegNum) (s : RegNum) (off : Offset) : FieldsDecode.Statement (.atomicFetchAddDw d s off) := fun h =>
  ⟨(by decide : (0xdb : BitVec 8) ≠ 0x18), by
    show decodeBasic ⟨0xdb, d, s, off, 0x01⟩ = _
    simp [decodeBasic, Fields.cls, Fields.specific, decodeStx, formAtomic, accept, h]⟩

theorem FieldsDecode.atomicOrDw (d : RegNum) (s : RegNum) (off : Offset) : FieldsDecode.Statement (.atomicOrDw d s off) := fun h =>
  ⟨(by decide : (0xdb : BitVec 8) ≠ 0x18), by
    show decodeBasic ⟨0xdb, d, s, off, 0x40⟩ = _
    simp [decodeBasic, Fields.cls, Fields.specific, decodeStx, formAtomic, accept, h]⟩

theorem FieldsDecode.atomicFetchOrDw (d : RegNum) (s : RegNum) (off : Offset) : FieldsDecode.Statement (.atomicFetchOrDw d s off) := fun h =>
  ⟨(by decide : (0xdb : BitVec 8) ≠ 0x18), by
    show decodeBasic ⟨0xdb, d, s, off, 0x41⟩ = _
    simp [decodeBasic, Fields.cls, Fields.specific, decodeStx, formAtomic, accept, h]⟩

theorem FieldsDecode.atomicAndDw (d : RegNum) (s : RegNum) (off : Offset) : FieldsDecode.Statement (.atomicAndDw d s off) := fun h =>
  ⟨(by decide : (0xdb : BitVec 8) ≠ 0x18), by
    show decodeBasic ⟨0xdb, d, s, off, 0x50⟩ = _
    simp [decodeBasic, Fields.cls, Fields.specific, decodeStx, formAtomic, accept, h]⟩

theorem FieldsDecode.atomicFetchAndDw (d : RegNum) (s : RegNum) (off : Offset) : FieldsDecode.Statement (.atomicFetchAndDw d s off) := fun h =>
  ⟨(by decide : (0xdb : BitVec 8) ≠ 0x18), by
    show decodeBasic ⟨0xdb, d, s, off, 0x51⟩ = _
    simp [decodeBasic, Fields.cls, Fields.specific, decodeStx, formAtomic, accept, h]⟩

theorem FieldsDecode.atomicXorDw (d : RegNum) (s : RegNum) (off : Offset) : FieldsDecode.Statement (.atomicXorDw d s off) := fun h =>
  ⟨(by decide : (0xdb : BitVec 8) ≠ 0x18), by
    show decodeBasic ⟨0xdb, d, s, off, 0xa0⟩ = _
    simp [decodeBasic, Fields.cls, Fields.specific, decodeStx, formAtomic, accept, h]⟩

theorem FieldsDecode.atomicFetchXorDw (d : RegNum) (s : RegNum) (off : Offset) : FieldsDecode.Statement (.atomicFetchXorDw d s off) := fun h =>
  ⟨(by decide : (0xdb : BitVec 8) ≠ 0x18), by
    show decodeBasic ⟨0xdb, d, s, off, 0xa1⟩ = _
    simp [decodeBasic, Fields.cls, Fields.specific, decodeStx, formAtomic, accept, h]⟩

theorem FieldsDecode.atomicXchgDw (d : RegNum) (s : RegNum) (off : Offset) : FieldsDecode.Statement (.atomicXchgDw d s off) := fun h =>
  ⟨(by decide : (0xdb : BitVec 8) ≠ 0x18), by
    show decodeBasic ⟨0xdb, d, s, off, 0xe1⟩ = _
    simp [decodeBasic, Fields.cls, Fields.specific, decodeStx, formAtomic, accept, h]⟩

theorem FieldsDecode.atomicCmpxchgDw (d : RegNum) (s : RegNum) (off : Offset) : FieldsDecode.Statement (.atomicCmpxchgDw d s off) := fun h =>
  ⟨(by decide : (0xdb : BitVec 8) ≠ 0x18), by
    show decodeBasic ⟨0xdb, d, s, off, 0xf1⟩ = _
    simp [decodeBasic, Fields.cls, Fields.specific, decodeStx, formAtomic, accept, h]⟩

theorem FieldsDecode.ldImm64 (d : RegNum) (imm : Imm) (nextImm : Imm) : FieldsDecode.Statement (.ldImm64 d imm nextImm) := fun h => ⟨rfl, accept_ok h⟩

theorem FieldsDecode.ldMapByFd (d : RegNum) (imm : Imm) : FieldsDecode.Statement (.ldMapByFd d imm) := fun h => ⟨rfl, accept_ok h⟩

theorem FieldsDecode.ldMapValByFd (d : RegNum) (imm : Imm) (nextImm : Imm) : FieldsDecode.Statement (.ldMapValByFd d imm nextImm) := fun h => ⟨rfl, accept_ok h⟩

theorem FieldsDecode.ldVarAddr (d : RegNum) (imm : Imm) : FieldsDecode.Statement (.ldVarAddr d imm) := fun h => ⟨rfl, accept_ok h⟩

theorem FieldsDecode.ldCodeAddr (d : RegNum) (imm : Imm) : FieldsDecode.Statement (.ldCodeAddr d imm) := fun h => ⟨rfl, accept_ok h⟩

theorem FieldsDecode.ldMapByIdx (d : RegNum) (imm : Imm) : FieldsDecode.Statement (.ldMapByIdx d imm) := fun h => ⟨rfl, accept_ok h⟩

theorem FieldsDecode.ldMapValByIdx (d : RegNum) (imm : Imm) (nextImm : Imm) : FieldsDecode.Statement (.ldMapValByIdx d imm nextImm) := fun h => ⟨rfl, accept_ok h⟩

theorem FieldsDecode.wideSecondSlot (imm : Imm) : FieldsDecode.Statement (.wideSecondSlot imm) := fun _ =>
  ⟨(by decide : (0x00 : BitVec 8) ≠ 0x18), by
    show decodeBasic ⟨0x00, 0, 0, 0, imm⟩ = _
    simp [decodeBasic, Fields.cls, Fields.specific, decodeLd, accept, Instr.wf, Instr.regFields]⟩

theorem FieldsDecode.ldAbsW (imm : Imm) : FieldsDecode.Statement (.ldAbsW imm) := fun _ =>
  ⟨(by decide : (0x20 : BitVec 8) ≠ 0x18), by
    show decodeBasic ⟨0x20, 0, 0, 0, imm⟩ = _
    simp [decodeBasic, Fields.cls, Fields.specific, decodeLd, formAbs, accept, Instr.wf, Instr.regFields]⟩

theorem FieldsDecode.ldAbsH (imm : Imm) : FieldsDecode.Statement (.ldAbsH imm) := fun _ =>
  ⟨(by decide : (0x28 : BitVec 8) ≠ 0x18), by
    show decodeBasic ⟨0x28, 0, 0, 0, imm⟩ = _
    simp [decodeBasic, Fields.cls, Fields.specific, decodeLd, formAbs, accept, Instr.wf, Instr.regFields]⟩

theorem FieldsDecode.ldAbsB (imm : Imm) : FieldsDecode.Statement (.ldAbsB imm) := fun _ =>
  ⟨(by decide : (0x30 : BitVec 8) ≠ 0x18), by
    show decodeBasic ⟨0x30, 0, 0, 0, imm⟩ = _
    simp [decodeBasic, Fields.cls, Fields.specific, decodeLd, formAbs, accept, Instr.wf, Instr.regFields]⟩

theorem FieldsDecode.ldIndW (s : RegNum) (imm : Imm) : FieldsDecode.Statement (.ldIndW s imm) := fun h =>
  ⟨(by decide : (0x40 : BitVec 8) ≠ 0x18), by
    show decodeBasic ⟨0x40, 0, s, 0, imm⟩ = _
    simp [decodeBasic, Fields.cls, Fields.specific, decodeLd, formInd, accept, h]⟩

theorem FieldsDecode.ldIndH (s : RegNum) (imm : Imm) : FieldsDecode.Statement (.ldIndH s imm) := fun h =>
  ⟨(by decide : (0x48 : BitVec 8) ≠ 0x18), by
    show decodeBasic ⟨0x48, 0, s, 0, imm⟩ = _
    simp [decodeBasic, Fields.cls, Fields.specific, decodeLd, formInd, accept, h]⟩

theorem FieldsDecode.ldIndB (s : RegNum) (imm : Imm) : FieldsDecode.Statement (.ldIndB s imm) := fun h =>
  ⟨(by decide : (0x50 : BitVec 8) ≠ 0x18), by
    show decodeBasic ⟨0x50, 0, s, 0, imm⟩ = _
    simp [decodeBasic, Fields.cls, Fields.specific, decodeLd, formInd, accept, h]⟩

end Sys2Proof.Laws
end

