-- ==== Sys2Proof/Tests/Slice0.lean ====
section
/-! SUPPORT. The model's own tests. Instruction bytes, operands and expected values are the spec's: the examples of
the instruction rules for decoding, and the vectors of spec/95_test_vectors.md for execution. -/

namespace Sys2Proof.Tests

open Sys2Proof.Machine

/-! ### Helpers -/

/-- A slot written as its eight bytes in address order, the lowest address first. -/
def slot (w : BitVec 64) : Slot :=
  ⟨w.extractLsb' 56 8, w.extractLsb' 48 8, w.extractLsb' 40 8, w.extractLsb' 32 8, w.extractLsb' 24 8,
    w.extractLsb' 16 8, w.extractLsb' 8 8, w.extractLsb' 0 8⟩

/-- The instruction the decoder reads from slots, if any. -/
def readInstr (e : Endian) (slots : List Slot) : Option Instr :=
  match decode e slots with
  | .ok i => some i
  | .error _ => none

/-- Both byte images decode to the instruction, and the instruction encodes to both. -/
def sameOnBothHosts (row : List Slot × List Slot × Instr) : Bool :=
  readInstr .little row.1 == some row.2.2 && readInstr .big row.2.1 == some row.2.2 &&
    encode .little row.2.2 == row.1 && encode .big row.2.2 == row.2.1

/-- The machine of the vectors: all groups but packet, a read-write region 0x1000 .. 0x10ff and a read-only one
0x2000 .. 0x203f. -/
def testConfig (e : Endian) : Config :=
  { resetConfig with
    endian := e
    regions := [⟨0x1000, 0x100, true, true⟩, ⟨0x2000, 0x40, true, false⟩] }

/-- A register file with the given registers, and no value in the others. -/
def regsOf (l : List (RegNum × Word)) : Regs :=
  l.foldl (fun x p => Regs.set x p.1 p.2) (Vector.replicate 11 none)

/-- Eight slots: `at_` slots of MOV_ALU64_K d = 0, imm = 0, then the given slots, then such slots again. -/
def programOf (at_ : Nat) (slots : List Slot) : List Slot :=
  List.replicate at_ (slot 0xb700000000000000) ++ slots ++
    List.replicate (8 - at_ - slots.length) (slot 0xb700000000000000)

/-- A state that runs the given slots next. -/
def testState (cfg : Config) (at_ : Nat) (slots : List Slot) (regs : List (RegNum × Word)) (mem : Memory) : State :=
  { State.start cfg (programOf at_ slots) (regsOf regs) mem 0 with pc := at_ }

/-- Memory with the given bytes from an address up. -/
def bytesAt (a : Nat) (bs : List Byte) : Memory := Memory.writeBytes [] a bs

/-- The state after one step; the state itself where there is none. -/
def afterStep (s : State) : State :=
  match step s with
  | .next t => t
  | .fault _ => s
  | .refused _ => s

/-- One step at pc 0 leaves the register with the value, pc at 1 and the program running. -/
def computes (row : Slot × List (RegNum × Word) × RegNum × Word) : Bool :=
  let t := afterStep (testState (testConfig .little) 0 [row.1] row.2.1 [])
  Regs.get t.regs row.2.2.1 == some row.2.2.2 && t.pc == 1 && t.status == .running

/-- One step at pc 2 leaves pc at the given slot. -/
def jumpsTo (row : Slot × List (RegNum × Word) × Nat) : Bool :=
  let t := afterStep (testState (testConfig .little) 2 [row.1] row.2.1 [])
  t.pc == row.2.2 && t.status == .running

/-- One step at pc 0 raises IllegalInstruction(0). -/
def isIllegal (cfg : Config) (slots : List Slot) : Bool :=
  (afterStep { State.start cfg slots (regsOf [(0, 1), (1, 1), (2, 1)]) [] 0 with pc := 0 }).status ==
    .faulted (.illegalInstruction 0)

/-! ### Well-formedness refuses what the encoding forbids -/

theorem test_wf_refuses_dst_above_ten : (Instr.addAlu64K 11 5).wf = false := by decide

theorem test_wf_refuses_src_above_ten : (Instr.ldIndW 15 5).wf = false := by decide

theorem test_wf_accepts_ten : (Instr.addAlu64X 10 10).wf = true := by decide

/-! ### Decoding the words of the instruction rules' examples, on both hosts -/

theorem test_decode_add :
    ([([slot 0x04010000ffffffff], [slot 0x04100000ffffffff], .addAluK 1 0xffffffff),
      ([slot 0x0c21000000000000], [slot 0x0c12000000000000], .addAluX 1 2),
      ([slot 0x07010000ffffffff], [slot 0x07100000ffffffff], .addAlu64K 1 0xffffffff),
      ([slot 0x0f21000000000000], [slot 0x0f12000000000000], .addAlu64X 1 2)] : List (List Slot × List Slot × Instr)).all sameOnBothHosts = true := by decide

theorem test_decode_sub :
    ([([slot 0x1401000001000000], [slot 0x1410000000000001], .subAluK 1 1),
      ([slot 0x1c21000000000000], [slot 0x1c12000000000000], .subAluX 1 2),
      ([slot 0x1701000001000000], [slot 0x1710000000000001], .subAlu64K 1 1),
      ([slot 0x1f21000000000000], [slot 0x1f12000000000000], .subAlu64X 1 2)] : List (List Slot × List Slot × Instr)).all sameOnBothHosts = true := by decide

theorem test_decode_mul :
    ([([slot 0x24010000fdffffff], [slot 0x24100000fffffffd], .mulAluK 1 0xfffffffd),
      ([slot 0x2c21000000000000], [slot 0x2c12000000000000], .mulAluX 1 2),
      ([slot 0x27010000fdffffff], [slot 0x27100000fffffffd], .mulAlu64K 1 0xfffffffd),
      ([slot 0x2f21000000000000], [slot 0x2f12000000000000], .mulAlu64X 1 2)] : List (List Slot × List Slot × Instr)).all sameOnBothHosts = true := by decide

theorem test_decode_div :
    ([([slot 0x34010000ffffffff], [slot 0x34100000ffffffff], .divAluK 1 0xffffffff),
      ([slot 0x3c21000000000000], [slot 0x3c12000000000000], .divAluX 1 2),
      ([slot 0x37010000ffffffff], [slot 0x37100000ffffffff], .divAlu64K 1 0xffffffff),
      ([slot 0x3f21000000000000], [slot 0x3f12000000000000], .divAlu64X 1 2)] : List (List Slot × List Slot × Instr)).all sameOnBothHosts = true := by decide

theorem test_decode_sdiv :
    ([([slot 0x34010100fdffffff], [slot 0x34100001fffffffd], .sdivAluK 1 0xfffffffd),
      ([slot 0x3c21010000000000], [slot 0x3c12000100000000], .sdivAluX 1 2),
      ([slot 0x37010100fdffffff], [slot 0x37100001fffffffd], .sdivAlu64K 1 0xfffffffd),
      ([slot 0x3f21010000000000], [slot 0x3f12000100000000], .sdivAlu64X 1 2)] : List (List Slot × List Slot × Instr)).all sameOnBothHosts = true := by decide

theorem test_decode_or :
    ([([slot 0x4401000000000080], [slot 0x4410000080000000], .orAluK 1 0x80000000),
      ([slot 0x4c21000000000000], [slot 0x4c12000000000000], .orAluX 1 2),
      ([slot 0x4701000000000080], [slot 0x4710000080000000], .orAlu64K 1 0x80000000),
      ([slot 0x4f21000000000000], [slot 0x4f12000000000000], .orAlu64X 1 2)] : List (List Slot × List Slot × Instr)).all sameOnBothHosts = true := by decide

theorem test_decode_and :
    ([([slot 0x54010000f0ffffff], [slot 0x54100000fffffff0], .andAluK 1 0xfffffff0),
      ([slot 0x5c21000000000000], [slot 0x5c12000000000000], .andAluX 1 2),
      ([slot 0x57010000f0ffffff], [slot 0x57100000fffffff0], .andAlu64K 1 0xfffffff0),
      ([slot 0x5f21000000000000], [slot 0x5f12000000000000], .andAlu64X 1 2)] : List (List Slot × List Slot × Instr)).all sameOnBothHosts = true := by decide

theorem test_decode_lsh :
    ([([slot 0x640100001f000000], [slot 0x641000000000001f], .lshAluK 1 0x1f),
      ([slot 0x6c21000000000000], [slot 0x6c12000000000000], .lshAluX 1 2),
      ([slot 0x670100001f000000], [slot 0x671000000000001f], .lshAlu64K 1 0x1f),
      ([slot 0x6f21000000000000], [slot 0x6f12000000000000], .lshAlu64X 1 2)] : List (List Slot × List Slot × Instr)).all sameOnBothHosts = true := by decide

theorem test_decode_rsh :
    ([([slot 0x740100003f000000], [slot 0x741000000000003f], .rshAluK 1 0x3f),
      ([slot 0x7c21000000000000], [slot 0x7c12000000000000], .rshAluX 1 2),
      ([slot 0x770100003f000000], [slot 0x771000000000003f], .rshAlu64K 1 0x3f),
      ([slot 0x7f21000000000000], [slot 0x7f12000000000000], .rshAlu64X 1 2)] : List (List Slot × List Slot × Instr)).all sameOnBothHosts = true := by decide

theorem test_decode_neg :
    ([([slot 0x8401000000000000], [slot 0x8410000000000000], .negAlu 1),
      ([slot 0x8701000000000000], [slot 0x8710000000000000], .negAlu64 1)] : List (List Slot × List Slot × Instr)).all sameOnBothHosts = true := by decide

theorem test_decode_mod :
    ([([slot 0x94010000ffffffff], [slot 0x94100000ffffffff], .modAluK 1 0xffffffff),
      ([slot 0x9c21000000000000], [slot 0x9c12000000000000], .modAluX 1 2),
      ([slot 0x97010000ffffffff], [slot 0x97100000ffffffff], .modAlu64K 1 0xffffffff),
      ([slot 0x9f21000000000000], [slot 0x9f12000000000000], .modAlu64X 1 2)] : List (List Slot × List Slot × Instr)).all sameOnBothHosts = true := by decide

theorem test_decode_smod :
    ([([slot 0x94010100fdffffff], [slot 0x94100001fffffffd], .smodAluK 1 0xfffffffd),
      ([slot 0x9c21010000000000], [slot 0x9c12000100000000], .smodAluX 1 2),
      ([slot 0x97010100fdffffff], [slot 0x97100001fffffffd], .smodAlu64K 1 0xfffffffd),
      ([slot 0x9f21010000000000], [slot 0x9f12000100000000], .smodAlu64X 1 2)] : List (List Slot × List Slot × Instr)).all sameOnBothHosts = true := by decide

theorem test_decode_xor :
    ([([slot 0xa4010000ffffffff], [slot 0xa4100000ffffffff], .xorAluK 1 0xffffffff),
      ([slot 0xac21000000000000], [slot 0xac12000000000000], .xorAluX 1 2),
      ([slot 0xa7010000ffffffff], [slot 0xa7100000ffffffff], .xorAlu64K 1 0xffffffff),
      ([slot 0xaf21000000000000], [slot 0xaf12000000000000], .xorAlu64X 1 2)] : List (List Slot × List Slot × Instr)).all sameOnBothHosts = true := by decide

theorem test_decode_mov :
    ([([slot 0xb4010000ffffffff], [slot 0xb4100000ffffffff], .movAluK 1 0xffffffff),
      ([slot 0xbc21000000000000], [slot 0xbc12000000000000], .movAluX 1 2),
      ([slot 0xb7010000ffffffff], [slot 0xb7100000ffffffff], .movAlu64K 1 0xffffffff),
      ([slot 0xbf21000000000000], [slot 0xbf12000000000000], .movAlu64X 1 2)] : List (List Slot × List Slot × Instr)).all sameOnBothHosts = true := by decide

theorem test_decode_movsx :
    ([([slot 0xbc21080000000000], [slot 0xbc12000800000000], .movsx8AluX 1 2),
      ([slot 0xbc21100000000000], [slot 0xbc12001000000000], .movsx16AluX 1 2),
      ([slot 0xbf21080000000000], [slot 0xbf12000800000000], .movsx8Alu64X 1 2),
      ([slot 0xbf21100000000000], [slot 0xbf12001000000000], .movsx16Alu64X 1 2),
      ([slot 0xbf21200000000000], [slot 0xbf12002000000000], .movsx32Alu64X 1 2)] : List (List Slot × List Slot × Instr)).all sameOnBothHosts = true := by decide

theorem test_decode_arsh :
    ([([slot 0xc40100001f000000], [slot 0xc41000000000001f], .arshAluK 1 0x1f),
      ([slot 0xcc21000000000000], [slot 0xcc12000000000000], .arshAluX 1 2),
      ([slot 0xc70100001f000000], [slot 0xc71000000000001f], .arshAlu64K 1 0x1f),
      ([slot 0xcf21000000000000], [slot 0xcf12000000000000], .arshAlu64X 1 2)] : List (List Slot × List Slot × Instr)).all sameOnBothHosts = true := by decide

theorem test_decode_end_to_le :
    ([([slot 0xd401000010000000], [slot 0xd410000000000010], .endToLe16 1),
      ([slot 0xd401000020000000], [slot 0xd410000000000020], .endToLe32 1),
      ([slot 0xd401000040000000], [slot 0xd410000000000040], .endToLe64 1)] : List (List Slot × List Slot × Instr)).all sameOnBothHosts = true := by decide

theorem test_decode_end_to_be :
    ([([slot 0xdc01000010000000], [slot 0xdc10000000000010], .endToBe16 1),
      ([slot 0xdc01000020000000], [slot 0xdc10000000000020], .endToBe32 1),
      ([slot 0xdc01000040000000], [slot 0xdc10000000000040], .endToBe64 1)] : List (List Slot × List Slot × Instr)).all sameOnBothHosts = true := by decide

theorem test_decode_bswap :
    ([([slot 0xd701000010000000], [slot 0xd710000000000010], .bswap16 1),
      ([slot 0xd701000020000000], [slot 0xd710000000000020], .bswap32 1),
      ([slot 0xd701000040000000], [slot 0xd710000000000040], .bswap64 1)] : List (List Slot × List Slot × Instr)).all sameOnBothHosts = true := by decide

theorem test_decode_call_exit_ja :
    ([([slot 0x0500030000000000], [slot 0x0500000300000000], .jaJmp 3),
      ([slot 0x0600000003000000], [slot 0x0600000000000003], .jaJmp32 3),
      ([slot 0x8500000007000000], [slot 0x8500000000000007], .callHelper 7),
      ([slot 0x8510000005000000], [slot 0x8501000000000005], .callLocal 5),
      ([slot 0x8520000007000000], [slot 0x8502000000000007], .callHelperBtf 7),
      ([slot 0x9500000000000000], [slot 0x9500000000000000], .exit),
      ([slot 0x0000000067452301], [slot 0x0000000001234567], .wideSecondSlot 0x1234567)] : List (List Slot × List Slot × Instr)).all sameOnBothHosts = true := by decide

theorem test_decode_jeq :
    ([([slot 0x15010300ffffffff], [slot 0x15100003ffffffff], .jeqJmpK 1 3 0xffffffff),
      ([slot 0x1d21030000000000], [slot 0x1d12000300000000], .jeqJmpX 1 2 3),
      ([slot 0x16010300ffffffff], [slot 0x16100003ffffffff], .jeqJmp32K 1 3 0xffffffff),
      ([slot 0x1e21030000000000], [slot 0x1e12000300000000], .jeqJmp32X 1 2 3)] : List (List Slot × List Slot × Instr)).all sameOnBothHosts = true := by decide

theorem test_decode_jgt :
    ([([slot 0x25010300ffffffff], [slot 0x25100003ffffffff], .jgtJmpK 1 3 0xffffffff),
      ([slot 0x2d21030000000000], [slot 0x2d12000300000000], .jgtJmpX 1 2 3),
      ([slot 0x26010300ffffffff], [slot 0x26100003ffffffff], .jgtJmp32K 1 3 0xffffffff),
      ([slot 0x2e21030000000000], [slot 0x2e12000300000000], .jgtJmp32X 1 2 3)] : List (List Slot × List Slot × Instr)).all sameOnBothHosts = true := by decide

theorem test_decode_jge :
    ([([slot 0x35010300ffffffff], [slot 0x35100003ffffffff], .jgeJmpK 1 3 0xffffffff),
      ([slot 0x3d21030000000000], [slot 0x3d12000300000000], .jgeJmpX 1 2 3),
      ([slot 0x36010300ffffffff], [slot 0x36100003ffffffff], .jgeJmp32K 1 3 0xffffffff),
      ([slot 0x3e21030000000000], [slot 0x3e12000300000000], .jgeJmp32X 1 2 3)] : List (List Slot × List Slot × Instr)).all sameOnBothHosts = true := by decide

theorem test_decode_jset :
    ([([slot 0x45010300ffffffff], [slot 0x45100003ffffffff], .jsetJmpK 1 3 0xffffffff),
      ([slot 0x4d21030000000000], [slot 0x4d12000300000000], .jsetJmpX 1 2 3),
      ([slot 0x46010300ffffffff], [slot 0x46100003ffffffff], .jsetJmp32K 1 3 0xffffffff),
      ([slot 0x4e21030000000000], [slot 0x4e12000300000000], .jsetJmp32X 1 2 3)] : List (List Slot × List Slot × Instr)).all sameOnBothHosts = true := by decide

theorem test_decode_jne :
    ([([slot 0x55010300ffffffff], [slot 0x55100003ffffffff], .jneJmpK 1 3 0xffffffff),
      ([slot 0x5d21030000000000], [slot 0x5d12000300000000], .jneJmpX 1 2 3),
      ([slot 0x56010300ffffffff], [slot 0x56100003ffffffff], .jneJmp32K 1 3 0xffffffff),
      ([slot 0x5e21030000000000], [slot 0x5e12000300000000], .jneJmp32X 1 2 3)] : List (List Slot × List Slot × Instr)).all sameOnBothHosts = true := by decide

theorem test_decode_jsgt :
    ([([slot 0x65010300ffffffff], [slot 0x65100003ffffffff], .jsgtJmpK 1 3 0xffffffff),
      ([slot 0x6d21030000000000], [slot 0x6d12000300000000], .jsgtJmpX 1 2 3),
      ([slot 0x66010300ffffffff], [slot 0x66100003ffffffff], .jsgtJmp32K 1 3 0xffffffff),
      ([slot 0x6e21030000000000], [slot 0x6e12000300000000], .jsgtJmp32X 1 2 3)] : List (List Slot × List Slot × Instr)).all sameOnBothHosts = true := by decide

theorem test_decode_jsge :
    ([([slot 0x75010300ffffffff], [slot 0x75100003ffffffff], .jsgeJmpK 1 3 0xffffffff),
      ([slot 0x7d21030000000000], [slot 0x7d12000300000000], .jsgeJmpX 1 2 3),
      ([slot 0x76010300ffffffff], [slot 0x76100003ffffffff], .jsgeJmp32K 1 3 0xffffffff),
      ([slot 0x7e21030000000000], [slot 0x7e12000300000000], .jsgeJmp32X 1 2 3)] : List (List Slot × List Slot × Instr)).all sameOnBothHosts = true := by decide

theorem test_decode_jlt :
    ([([slot 0xa5010300ffffffff], [slot 0xa5100003ffffffff], .jltJmpK 1 3 0xffffffff),
      ([slot 0xad21030000000000], [slot 0xad12000300000000], .jltJmpX 1 2 3),
      ([slot 0xa6010300ffffffff], [slot 0xa6100003ffffffff], .jltJmp32K 1 3 0xffffffff),
      ([slot 0xae21030000000000], [slot 0xae12000300000000], .jltJmp32X 1 2 3)] : List (List Slot × List Slot × Instr)).all sameOnBothHosts = true := by decide

theorem test_decode_jle :
    ([([slot 0xb5010300ffffffff], [slot 0xb5100003ffffffff], .jleJmpK 1 3 0xffffffff),
      ([slot 0xbd21030000000000], [slot 0xbd12000300000000], .jleJmpX 1 2 3),
      ([slot 0xb6010300ffffffff], [slot 0xb6100003ffffffff], .jleJmp32K 1 3 0xffffffff),
      ([slot 0xbe21030000000000], [slot 0xbe12000300000000], .jleJmp32X 1 2 3)] : List (List Slot × List Slot × Instr)).all sameOnBothHosts = true := by decide

theorem test_decode_jslt :
    ([([slot 0xc5010300ffffffff], [slot 0xc5100003ffffffff], .jsltJmpK 1 3 0xffffffff),
      ([slot 0xcd21030000000000], [slot 0xcd12000300000000], .jsltJmpX 1 2 3),
      ([slot 0xc6010300ffffffff], [slot 0xc6100003ffffffff], .jsltJmp32K 1 3 0xffffffff),
      ([slot 0xce21030000000000], [slot 0xce12000300000000], .jsltJmp32X 1 2 3)] : List (List Slot × List Slot × Instr)).all sameOnBothHosts = true := by decide

theorem test_decode_jsle :
    ([([slot 0xd5010300ffffffff], [slot 0xd5100003ffffffff], .jsleJmpK 1 3 0xffffffff),
      ([slot 0xdd21030000000000], [slot 0xdd12000300000000], .jsleJmpX 1 2 3),
      ([slot 0xd6010300ffffffff], [slot 0xd6100003ffffffff], .jsleJmp32K 1 3 0xffffffff),
      ([slot 0xde21030000000000], [slot 0xde12000300000000], .jsleJmp32X 1 2 3)] : List (List Slot × List Slot × Instr)).all sameOnBothHosts = true := by decide

theorem test_decode_ldx :
    ([([slot 0x7121080000000000], [slot 0x7112000800000000], .ldxMemB 1 2 8),
      ([slot 0x6921080000000000], [slot 0x6912000800000000], .ldxMemH 1 2 8),
      ([slot 0x6121080000000000], [slot 0x6112000800000000], .ldxMemW 1 2 8),
      ([slot 0x7921080000000000], [slot 0x7912000800000000], .ldxMemDw 1 2 8),
      ([slot 0x9121080000000000], [slot 0x9112000800000000], .ldxMemsxB 1 2 8),
      ([slot 0x8921080000000000], [slot 0x8912000800000000], .ldxMemsxH 1 2 8),
      ([slot 0x8121080000000000], [slot 0x8112000800000000], .ldxMemsxW 1 2 8)] : List (List Slot × List Slot × Instr)).all sameOnBothHosts = true := by decide

theorem test_decode_st :
    ([([slot 0x72011000feffffff], [slot 0x72100010fffffffe], .stMemB 1 0x10 0xfffffffe),
      ([slot 0x6a011000feffffff], [slot 0x6a100010fffffffe], .stMemH 1 0x10 0xfffffffe),
      ([slot 0x62011000feffffff], [slot 0x62100010fffffffe], .stMemW 1 0x10 0xfffffffe),
      ([slot 0x7a011000feffffff], [slot 0x7a100010fffffffe], .stMemDw 1 0x10 0xfffffffe)] : List (List Slot × List Slot × Instr)).all sameOnBothHosts = true := by decide

theorem test_decode_stx :
    ([([slot 0x7321100000000000], [slot 0x7312001000000000], .stxMemB 1 2 0x10),
      ([slot 0x6b21100000000000], [slot 0x6b12001000000000], .stxMemH 1 2 0x10),
      ([slot 0x6321100000000000], [slot 0x6312001000000000], .stxMemW 1 2 0x10),
      ([slot 0x7b21100000000000], [slot 0x7b12001000000000], .stxMemDw 1 2 0x10)] : List (List Slot × List Slot × Instr)).all sameOnBothHosts = true := by decide

theorem test_decode_atomic_w :
    ([([slot 0xc321100000000000], [slot 0xc312001000000000], .atomicAddW 1 2 0x10),
      ([slot 0xc321100040000000], [slot 0xc312001000000040], .atomicOrW 1 2 0x10),
      ([slot 0xc321100050000000], [slot 0xc312001000000050], .atomicAndW 1 2 0x10),
      ([slot 0xc3211000a0000000], [slot 0xc3120010000000a0], .atomicXorW 1 2 0x10)] : List (List Slot × List Slot × Instr)).all sameOnBothHosts = true := by decide

theorem test_decode_atomic_w_fetch :
    ([([slot 0xc321100001000000], [slot 0xc312001000000001], .atomicFetchAddW 1 2 0x10),
      ([slot 0xc321100041000000], [slot 0xc312001000000041], .atomicFetchOrW 1 2 0x10),
      ([slot 0xc321100051000000], [slot 0xc312001000000051], .atomicFetchAndW 1 2 0x10),
      ([slot 0xc3211000a1000000], [slot 0xc3120010000000a1], .atomicFetchXorW 1 2 0x10),
      ([slot 0xc3211000e1000000], [slot 0xc3120010000000e1], .atomicXchgW 1 2 0x10),
      ([slot 0xc3211000f1000000], [slot 0xc3120010000000f1], .atomicCmpxchgW 1 2 0x10)] : List (List Slot × List Slot × Instr)).all sameOnBothHosts = true := by decide

theorem test_decode_atomic_dw :
    ([([slot 0xdb21100000000000], [slot 0xdb12001000000000], .atomicAddDw 1 2 0x10),
      ([slot 0xdb21100040000000], [slot 0xdb12001000000040], .atomicOrDw 1 2 0x10),
      ([slot 0xdb21100050000000], [slot 0xdb12001000000050], .atomicAndDw 1 2 0x10),
      ([slot 0xdb211000a0000000], [slot 0xdb120010000000a0], .atomicXorDw 1 2 0x10)] : List (List Slot × List Slot × Instr)).all sameOnBothHosts = true := by decide

theorem test_decode_atomic_dw_fetch :
    ([([slot 0xdb21100001000000], [slot 0xdb12001000000001], .atomicFetchAddDw 1 2 0x10),
      ([slot 0xdb21100041000000], [slot 0xdb12001000000041], .atomicFetchOrDw 1 2 0x10),
      ([slot 0xdb21100051000000], [slot 0xdb12001000000051], .atomicFetchAndDw 1 2 0x10),
      ([slot 0xdb211000a1000000], [slot 0xdb120010000000a1], .atomicFetchXorDw 1 2 0x10),
      ([slot 0xdb211000e1000000], [slot 0xdb120010000000e1], .atomicXchgDw 1 2 0x10),
      ([slot 0xdb211000f1000000], [slot 0xdb120010000000f1], .atomicCmpxchgDw 1 2 0x10)] : List (List Slot × List Slot × Instr)).all sameOnBothHosts = true := by decide

theorem test_decode_ld_wide :
    ([([slot 0x18010000efcdab89, slot 0x0000000067452301], [slot 0x1810000089abcdef, slot 0x0000000001234567], .ldImm64 1 0x89abcdef 0x1234567),
      ([slot 0x1811000003000000, slot 0x0000000000000000], [slot 0x1811000000000003, slot 0x0000000000000000], .ldMapByFd 1 3),
      ([slot 0x1821000003000000, slot 0x0000000008000000], [slot 0x1812000000000003, slot 0x0000000000000008], .ldMapValByFd 1 3 8),
      ([slot 0x1831000003000000, slot 0x0000000000000000], [slot 0x1813000000000003, slot 0x0000000000000000], .ldVarAddr 1 3),
      ([slot 0x1841000003000000, slot 0x0000000000000000], [slot 0x1814000000000003, slot 0x0000000000000000], .ldCodeAddr 1 3),
      ([slot 0x1851000003000000, slot 0x0000000000000000], [slot 0x1815000000000003, slot 0x0000000000000000], .ldMapByIdx 1 3),
      ([slot 0x1861000003000000, slot 0x0000000008000000], [slot 0x1816000000000003, slot 0x0000000000000008], .ldMapValByIdx 1 3 8)] : List (List Slot × List Slot × Instr)).all sameOnBothHosts = true := by decide

theorem test_decode_ld_packet :
    ([([slot 0x200000000e000000], [slot 0x200000000000000e], .ldAbsW 0xe),
      ([slot 0x280000000e000000], [slot 0x280000000000000e], .ldAbsH 0xe),
      ([slot 0x300000000e000000], [slot 0x300000000000000e], .ldAbsB 0xe),
      ([slot 0x402000000e000000], [slot 0x400200000000000e], .ldIndW 2 0xe),
      ([slot 0x482000000e000000], [slot 0x480200000000000e], .ldIndH 2 0xe),
      ([slot 0x502000000e000000], [slot 0x500200000000000e], .ldIndB 2 0xe)] : List (List Slot × List Slot × Instr)).all sameOnBothHosts = true := by decide

/-! ### The arithmetic vectors (95_test_vectors.md 2.1) -/

theorem test_vectors_add :
    ([(slot 0x0701000044332211, [(1, 0x11)], 1, 0x11223355),
      (slot 0x0f21000000000000, [(1, 0xffffffffffffffff), (2, 0x1)], 1, 0x0),
      (slot 0x07010000ffffffff, [(1, 0x0)], 1, 0xffffffffffffffff),
      (slot 0x0401000001000000, [(1, 0xdeadbeefffffffff)], 1, 0x0),
      (slot 0x04010000ffffffff, [(1, 0x0)], 1, 0xffffffff),
      (slot 0x0c21000000000000, [(1, 0xdeadbeef00000005), (2, 0xdeadbeef00000007)], 1, 0xc),
      (slot 0x0f33000000000000, [(3, 0x8000000000000001)], 3, 0x2)] : List (Slot × List (RegNum × Word) × RegNum × Word)).all computes = true := by decide

theorem test_vectors_sub :
    ([(slot 0x1701000001000000, [(1, 0x0)], 1, 0xffffffffffffffff),
      (slot 0x1c21000000000000, [(1, 0x0), (2, 0x1)], 1, 0xffffffff),
      (slot 0x1f44000000000000, [(4, 0x1234)], 4, 0x0)] : List (Slot × List (RegNum × Word) × RegNum × Word)).all computes = true := by decide

theorem test_vectors_mul :
    ([(slot 0x2f21000000000000, [(1, 0x100000001), (2, 0x100000001)], 1, 0x200000001),
      (slot 0x27010000feffffff, [(1, 0x3)], 1, 0xfffffffffffffffa),
      (slot 0x2401000002000000, [(1, 0xdeadbeef80000000)], 1, 0x0),
      (slot 0x2c21000000000000, [(1, 0xffffffff), (2, 0xffffffff)], 1, 0x1)] : List (Slot × List (RegNum × Word) × RegNum × Word)).all computes = true := by decide

theorem test_vectors_div :
    ([(slot 0x3f21000000000000, [(1, 0x64), (2, 0x7)], 1, 0xe),
      (slot 0x3f21000000000000, [(1, 0x64), (2, 0x0)], 1, 0x0),
      (slot 0x3701000000000000, [(1, 0x64)], 1, 0x0),
      (slot 0x37010000ffffffff, [(1, 0xffffffffffffffff)], 1, 0x1),
      (slot 0x37010000ffffffff, [(1, 0xffffffff00000000)], 1, 0x0),
      (slot 0x34010000ffffffff, [(1, 0xdeadbeeffffffffe)], 1, 0x0),
      (slot 0x3c21000000000000, [(1, 0xdeadbeef00000064), (2, 0xdeadbeef00000000)], 1, 0x0)] : List (Slot × List (RegNum × Word) × RegNum × Word)).all computes = true := by decide

theorem test_vectors_sdiv :
    ([(slot 0x3701010003000000, [(1, 0xfffffffffffffff3)], 1, 0xfffffffffffffffc),
      (slot 0x3f21010000000000, [(1, 0xd), (2, 0xfffffffffffffffd)], 1, 0xfffffffffffffffc),
      (slot 0x3f21010000000000, [(1, 0xfffffffffffffff3), (2, 0x0)], 1, 0x0),
      (slot 0x3f21010000000000, [(1, 0x8000000000000000), (2, 0xffffffffffffffff)], 1, 0x8000000000000000),
      (slot 0x37010100ffffffff, [(1, 0x8000000000000000)], 1, 0x8000000000000000),
      (slot 0x3401010003000000, [(1, 0xdeadbeeffffffff3)], 1, 0xfffffffc),
      (slot 0x3c21010000000000, [(1, 0x80000000), (2, 0xffffffff)], 1, 0x80000000)] : List (Slot × List (RegNum × Word) × RegNum × Word)).all computes = true := by decide

theorem test_vectors_or :
    ([(slot 0x4701000000000080, [(1, 0x1)], 1, 0xffffffff80000001),
      (slot 0x4401000000000080, [(1, 0xdeadbeef00000001)], 1, 0x80000001)] : List (Slot × List (RegNum × Word) × RegNum × Word)).all computes = true := by decide

theorem test_vectors_and :
    ([(slot 0x57010000f0ffffff, [(1, 0x123456789abcdef0)], 1, 0x123456789abcdef0),
      (slot 0x57010000ffffff7f, [(1, 0x123456789abcdef0)], 1, 0x1abcdef0),
      (slot 0x5c21000000000000, [(1, 0xffffffffffffffff), (2, 0xf0f0f0f0f0f0f0f0)], 1, 0xf0f0f0f0)] : List (Slot × List (RegNum × Word) × RegNum × Word)).all computes = true := by decide

theorem test_vectors_lsh :
    ([(slot 0x670100003f000000, [(1, 0x1)], 1, 0x8000000000000000),
      (slot 0x6f21000000000000, [(1, 0x1), (2, 0x41)], 1, 0x2),
      (slot 0x6f21000000000000, [(1, 0x1234), (2, 0x40)], 1, 0x1234),
      (slot 0x6c21000000000000, [(1, 0xdeadbeef00000001), (2, 0x21)], 1, 0x2),
      (slot 0x6401000001000000, [(1, 0x80000001)], 1, 0x2)] : List (Slot × List (RegNum × Word) × RegNum × Word)).all computes = true := by decide

theorem test_vectors_rsh :
    ([(slot 0x770100003f000000, [(1, 0x8000000000000000)], 1, 0x1),
      (slot 0x740100001f000000, [(1, 0xdeadbeef80000000)], 1, 0x1),
      (slot 0x7f21000000000000, [(1, 0xff00), (2, 0x108)], 1, 0xff)] : List (Slot × List (RegNum × Word) × RegNum × Word)).all computes = true := by decide

theorem test_vectors_arsh :
    ([(slot 0xc70100003f000000, [(1, 0x8000000000000000)], 1, 0xffffffffffffffff),
      (slot 0xc40100001f000000, [(1, 0x80000000)], 1, 0xffffffff),
      (slot 0xc401000004000000, [(1, 0xffffffff7fffffff)], 1, 0x7ffffff),
      (slot 0xcf21000000000000, [(1, 0xffffffffffffff00), (2, 0x44)], 1, 0xfffffffffffffff0)] : List (Slot × List (RegNum × Word) × RegNum × Word)).all computes = true := by decide

theorem test_vectors_neg :
    ([(slot 0x8701000000000000, [(1, 0x1)], 1, 0xffffffffffffffff),
      (slot 0x8701000000000000, [(1, 0x8000000000000000)], 1, 0x8000000000000000),
      (slot 0x8701000000000000, [(1, 0x0)], 1, 0x0),
      (slot 0x8401000000000000, [(1, 0xdeadbeef00000001)], 1, 0xffffffff)] : List (Slot × List (RegNum × Word) × RegNum × Word)).all computes = true := by decide

theorem test_vectors_mod :
    ([(slot 0x9f21000000000000, [(1, 0x64), (2, 0x7)], 1, 0x2),
      (slot 0x9f21000000000000, [(1, 0xdeadbeef12345678), (2, 0x0)], 1, 0xdeadbeef12345678),
      (slot 0x9c21000000000000, [(1, 0xdeadbeef12345678), (2, 0x0)], 1, 0x12345678),
      (slot 0x9401000000000000, [(1, 0xdeadbeef12345678)], 1, 0x12345678),
      (slot 0x97010000ffffffff, [(1, 0x5)], 1, 0x5)] : List (Slot × List (RegNum × Word) × RegNum × Word)).all computes = true := by decide

theorem test_vectors_smod :
    ([(slot 0x9701010003000000, [(1, 0xfffffffffffffff3)], 1, 0xffffffffffffffff),
      (slot 0x9f21010000000000, [(1, 0xd), (2, 0xfffffffffffffffd)], 1, 0x1),
      (slot 0x9f21010000000000, [(1, 0x8000000000000000), (2, 0xffffffffffffffff)], 1, 0x0),
      (slot 0x9f21010000000000, [(1, 0xfffffffffffffff3), (2, 0x0)], 1, 0xfffffffffffffff3),
      (slot 0x9401010003000000, [(1, 0xdeadbeeffffffff3)], 1, 0xffffffff),
      (slot 0x9c21010000000000, [(1, 0xdeadbeeffffffff3), (2, 0xdeadbeef00000000)], 1, 0xfffffff3)] : List (Slot × List (RegNum × Word) × RegNum × Word)).all computes = true := by decide

theorem test_vectors_xor :
    ([(slot 0xa7010000ffffffff, [(1, 0x0)], 1, 0xffffffffffffffff),
      (slot 0xa4010000ffffffff, [(1, 0x0)], 1, 0xffffffff),
      (slot 0xaf55000000000000, [(5, 0x1234)], 5, 0x0)] : List (Slot × List (RegNum × Word) × RegNum × Word)).all computes = true := by decide

theorem test_vectors_mov :
    ([(slot 0xb7010000ffffffff, [], 1, 0xffffffffffffffff),
      (slot 0xb4010000ffffffff, [], 1, 0xffffffff),
      (slot 0xbf21000000000000, [(2, 0xdeadbeef12345678)], 1, 0xdeadbeef12345678),
      (slot 0xbc21000000000000, [(2, 0xdeadbeef12345678)], 1, 0x12345678)] : List (Slot × List (RegNum × Word) × RegNum × Word)).all computes = true := by decide

theorem test_vectors_movsx :
    ([(slot 0xbc21080000000000, [(2, 0x1234567800000086)], 1, 0xffffff86),
      (slot 0xbc21100000000000, [(2, 0x8001)], 1, 0xffff8001),
      (slot 0xbf21080000000000, [(2, 0x7f)], 1, 0x7f),
      (slot 0xbf21080000000000, [(2, 0x1234567800000086)], 1, 0xffffffffffffff86),
      (slot 0xbf21100000000000, [(2, 0xffff7fff)], 1, 0x7fff),
      (slot 0xbf21200000000000, [(2, 0x80000000)], 1, 0xffffffff80000000)] : List (Slot × List (RegNum × Word) × RegNum × Word)).all computes = true := by decide

/-! ### The byte swap vectors (2.2), on both hosts -/

/-- One step at pc 0 on a host of the given byte order leaves x[1] with the value. -/
def swaps (e : Endian) (row : Slot × Word) : Bool :=
  Regs.get (afterStep (testState (testConfig e) 0 [row.1] [(1, 0x0123456789abcdef)] [])).regs 1 == some row.2

theorem test_vectors_byteswap_little :
    ([(slot 0xd401000010000000, 0x000000000000cdef),
      (slot 0xd401000020000000, 0x0000000089abcdef),
      (slot 0xd401000040000000, 0x0123456789abcdef),
      (slot 0xdc01000010000000, 0x000000000000efcd),
      (slot 0xdc01000020000000, 0x00000000efcdab89),
      (slot 0xdc01000040000000, 0xefcdab8967452301),
      (slot 0xd701000010000000, 0x000000000000efcd),
      (slot 0xd701000020000000, 0x00000000efcdab89),
      (slot 0xd701000040000000, 0xefcdab8967452301)] : List (Slot × Word)).all (swaps .little) = true := by decide

theorem test_vectors_byteswap_big :
    ([(slot 0xd410000000000010, 0x000000000000efcd),
      (slot 0xd410000000000020, 0x00000000efcdab89),
      (slot 0xd410000000000040, 0xefcdab8967452301),
      (slot 0xdc10000000000010, 0x000000000000cdef),
      (slot 0xdc10000000000020, 0x0000000089abcdef),
      (slot 0xdc10000000000040, 0x0123456789abcdef),
      (slot 0xd710000000000010, 0x000000000000efcd),
      (slot 0xd710000000000020, 0x00000000efcdab89),
      (slot 0xd710000000000040, 0xefcdab8967452301)] : List (Slot × Word)).all (swaps .big) = true := by decide

/-! ### The conditional jump vectors (2.3) -/

theorem test_vectors_jumps_unsigned :
    ([(slot 0x1501030005000000, [(1, 0x5)], 6),
      (slot 0x15010300ffffffff, [(1, 0xffffffffffffffff)], 6),
      (slot 0x15010300ffffffff, [(1, 0xffffffff)], 3),
      (slot 0x1601030005000000, [(1, 0xffffffff00000005)], 6),
      (slot 0x16010300ffffffff, [(1, 0xffffffff)], 6),
      (slot 0x5d21030000000000, [(1, 0xffffffff00000005), (2, 0x5)], 6),
      (slot 0x5e21030000000000, [(1, 0xffffffff00000005), (2, 0x5)], 3),
      (slot 0x25010300ffffffff, [(1, 0x1)], 3),
      (slot 0x2d21030000000000, [(1, 0x8000000000000000), (2, 0x1)], 6),
      (slot 0x3d21030000000000, [(1, 0x7), (2, 0x7)], 6),
      (slot 0x3e21030000000000, [(1, 0x100000000), (2, 0x1)], 3),
      (slot 0xa5010300ffffffff, [(1, 0x0)], 6),
      (slot 0xb5010300ffffffff, [(1, 0xfffffffffffffffe)], 6),
      (slot 0xb6010300feffffff, [(1, 0xffffffff)], 3),
      (slot 0x45010300ffffffff, [(1, 0x100000000)], 6),
      (slot 0x46010300ffffffff, [(1, 0x100000000)], 3),
      (slot 0x4d21030000000000, [(1, 0xf0), (2, 0xf)], 3)] : List (Slot × List (RegNum × Word) × Nat)).all jumpsTo = true := by decide

theorem test_vectors_jumps_signed :
    ([(slot 0x65010300ffffffff, [(1, 0x1)], 6),
      (slot 0x6d21030000000000, [(1, 0x8000000000000000), (2, 0x1)], 3),
      (slot 0x7e21030000000000, [(1, 0x80000000), (2, 0x0)], 3),
      (slot 0x7e21030000000000, [(1, 0xffffffff7fffffff), (2, 0x0)], 6),
      (slot 0xc5010300ffffffff, [(1, 0x0)], 3),
      (slot 0xdd21030000000000, [(1, 0xffffffffffffffff), (2, 0xffffffffffffffff)], 6),
      (slot 0xde21030000000000, [(1, 0x7fffffff), (2, 0x80000000)], 3)] : List (Slot × List (RegNum × Word) × Nat)).all jumpsTo = true := by decide

/-! ### Control transfers (2.3) -/

/-- One step of a `JA` or call at slot `at_` of eight: the pc and the status after it. -/
def transfer (at_ : Nat) (cs : List Nat) (slots : List Slot) : Nat × List Nat × RunStatus :=
  let t := afterStep { testState (testConfig .little) at_ slots [] [] with callstack := cs }
  (t.pc, t.callstack, t.status)

theorem test_ja_forward : transfer 1 [] [slot 0x0500020000000000] = (4, [], .running) := by decide

theorem test_ja_below_zero :
    transfer 1 [] [slot 0x0500fdff00000000] = (1, [], .faulted (.badJumpTarget (-1))) := by decide

theorem test_ja_past_end :
    transfer 1 [] [slot 0x0500060000000000] = (1, [], .faulted (.badJumpTarget 8)) := by decide

theorem test_ja_jmp32_backward : transfer 4 [] [slot 0x06000000feffffff] = (3, [], .running) := by decide

theorem test_ja_onto_wide :
    transfer 0 [] [slot 0x0500000000000000, slot 0x1801000000000000, slot 0] = (1, [], .running) := by decide

theorem test_ja_into_second_slot :
    transfer 0 [] [slot 0x0500010000000000, slot 0x1801000000000000, slot 0] =
      (0, [], .faulted (.badJumpTarget 2)) := by decide

theorem test_call_local : transfer 2 [] [slot 0x8510000003000000] = (6, [3], .running) := by decide

theorem test_call_local_depth :
    transfer 2 [1, 1, 1, 1, 1, 1, 1, 1] [slot 0x8510000003000000] =
      (2, [1, 1, 1, 1, 1, 1, 1, 1], .faulted (.callDepthExceeded 2)) := by decide

theorem test_call_local_target :
    transfer 2 [] [slot 0x8510000009000000] = (2, [], .faulted (.badJumpTarget 12)) := by decide

theorem test_exit_returns : transfer 6 [3] [slot 0x9500000000000000] = (3, [], .running) := by decide

theorem test_exit_ends : transfer 6 [] [slot 0x9500000000000000] = (6, [], .exited) := by decide

theorem test_call_helper_unknown :
    transfer 0 [] [slot 0x8500000001000000] = (0, [], .faulted (.unknownHelper .staticId 1)) := by decide

theorem test_call_helper_btf_unknown :
    transfer 0 [] [slot 0x852000004d000000] = (0, [], .faulted (.unknownHelper .btfId 77)) := by decide

theorem test_run_off_the_end :
    step { testState (testConfig .little) 0 [] [] [] with pc := 8 } =
      .next (raise (.badJumpTarget 8) { testState (testConfig .little) 0 [] [] [] with pc := 8 }) := rfl

theorem test_exited_has_no_step :
    step { testState (testConfig .little) 0 [] [] [] with status := .exited } = .fault .runExited := rfl

/-! ### Loads and stores (2.4), on both hosts -/

/-- The memory of the load vectors: 80 91 a2 b3 c4 d5 e6 f7 from 0x1008, 7f at 0x1010, 11 .. 88 from 0x2000. -/
def loadMemory : Memory :=
  bytesAt 0x1008 [0x80, 0x91, 0xa2, 0xb3, 0xc4, 0xd5, 0xe6, 0xf7, 0x7f] ++
    bytesAt 0x2000 [0x11, 0x22, 0x33, 0x44, 0x55, 0x66, 0x77, 0x88]

/-- The slot that means on a big-endian host what the given one means on a little-endian host. -/
def onHost (e : Endian) (sl : Slot) : Slot := (sl.fields .little).slot e

/-- One load at pc 0 leaves the register with the value. -/
def loads (e : Endian) (row : Slot × Word × RegNum × Word) : Bool :=
  Regs.get (afterStep (testState (testConfig e) 0 [onHost e row.1] [(2, row.2.1)] loadMemory)).regs row.2.2.1 ==
    some row.2.2.2

/-- One store at pc 0, with x[1] = 0x1000 and x[2] = 0x1122334455667788, leaves exactly these bytes at 0x1010. -/
def stores (e : Endian) (row : Slot × List Byte) : Bool :=
  (afterStep (testState (testConfig e) 0 [onHost e row.1] [(1, 0x1000), (2, 0x1122334455667788)] [])).mem ==
    bytesAt 0x1010 row.2

theorem test_vectors_loads_little :
    ([(slot 0x7121080000000000, 0x1000, 1, 0x80),
      (slot 0x6921080000000000, 0x1000, 1, 0x9180),
      (slot 0x6121080000000000, 0x1000, 1, 0xb3a29180),
      (slot 0x7921080000000000, 0x1000, 1, 0xf7e6d5c4b3a29180),
      (slot 0x9121080000000000, 0x1000, 1, 0xffffffffffffff80),
      (slot 0x8921080000000000, 0x1000, 1, 0xffffffffffff9180),
      (slot 0x8121080000000000, 0x1000, 1, 0xffffffffb3a29180),
      (slot 0x9121ffff00000000, 0x1011, 1, 0x7f),
      (slot 0x6122080000000000, 0x1000, 2, 0xb3a29180)] : List (Slot × Word × RegNum × Word)).all (loads .little) = true := by decide

theorem test_vectors_stores_little :
    ([(slot 0x7201100068452381, [0x68]),
      (slot 0x6a01100068452381, [0x68, 0x45]),
      (slot 0x6201100068452381, [0x68, 0x45, 0x23, 0x81]),
      (slot 0x7a01100068452381, [0x68, 0x45, 0x23, 0x81, 0xff, 0xff, 0xff, 0xff]),
      (slot 0x7321100000000000, [0x88]),
      (slot 0x6b21100000000000, [0x88, 0x77]),
      (slot 0x6321100000000000, [0x88, 0x77, 0x66, 0x55]),
      (slot 0x7b21100000000000, [0x88, 0x77, 0x66, 0x55, 0x44, 0x33, 0x22, 0x11])] : List (Slot × List Byte)).all (stores .little) = true := by decide

theorem test_vectors_loads_big :
    ([(slot 0x7121080000000000, 0x1000, 1, 0x80),
      (slot 0x6921080000000000, 0x1000, 1, 0x8091),
      (slot 0x6121080000000000, 0x1000, 1, 0x8091a2b3),
      (slot 0x7921080000000000, 0x1000, 1, 0x8091a2b3c4d5e6f7),
      (slot 0x9121080000000000, 0x1000, 1, 0xffffffffffffff80),
      (slot 0x8921080000000000, 0x1000, 1, 0xffffffffffff8091),
      (slot 0x8121080000000000, 0x1000, 1, 0xffffffff8091a2b3),
      (slot 0x9121ffff00000000, 0x1011, 1, 0x7f),
      (slot 0x6122080000000000, 0x1000, 2, 0x8091a2b3)] : List (Slot × Word × RegNum × Word)).all (loads .big) = true := by decide

theorem test_vectors_stores_big :
    ([(slot 0x7201100068452381, [0x68]),
      (slot 0x6a01100068452381, [0x45, 0x68]),
      (slot 0x6201100068452381, [0x81, 0x23, 0x45, 0x68]),
      (slot 0x7a01100068452381, [0xff, 0xff, 0xff, 0xff, 0x81, 0x23, 0x45, 0x68]),
      (slot 0x7321100000000000, [0x88]),
      (slot 0x6b21100000000000, [0x77, 0x88]),
      (slot 0x6321100000000000, [0x55, 0x66, 0x77, 0x88]),
      (slot 0x7b21100000000000, [0x11, 0x22, 0x33, 0x44, 0x55, 0x66, 0x77, 0x88])] : List (Slot × List Byte)).all (stores .big) = true := by decide

/-- The status after one memory instruction at pc 0. -/
def accessStatus (strict : Bool) (w : BitVec 64) (regs : List (RegNum × Word)) : RunStatus :=
  (afterStep (testState { testConfig .little with strictAlignment := strict } 0 [slot w] regs loadMemory)).status

theorem test_access_misaligned :
    accessStatus true 0x6121020000000000 [(2, 0x1000)] = .faulted (.misaligned 0x1002) := by decide

theorem test_access_misaligned_allowed :
    accessStatus false 0x61210a0000000000 [(2, 0x1000)] = .running := by decide

theorem test_access_past_region :
    accessStatus true 0x7921fc0000000000 [(2, 0x1000)] = .faulted (.memFault 0x10fc) := by decide

theorem test_access_outside_and_misaligned :
    accessStatus true 0x6121feff00000000 [(2, 0x1000)] = .faulted (.memFault 0xffe) := by decide

theorem test_access_read_only_load : accessStatus true 0x6121000000000000 [(2, 0x2000)] = .running := by decide

theorem test_access_read_only_store :
    accessStatus true 0x6321000000000000 [(1, 0x2000), (2, 1)] = .faulted (.memFault 0x2000) := by decide

theorem test_access_wraps :
    accessStatus true 0x7121011000000000 [(2, 0xffffffffffffffff)] = .running := by decide

theorem test_access_crosses_top :
    accessStatus true 0x7921000000000000 [(2, 0xfffffffffffffffc)] =
      .faulted (.memFault 0xfffffffffffffffc) := by decide

theorem test_access_base_without_value :
    accessStatus true 0x6121000000000000 [] = .faulted (.uninitRegister 2) := by decide

theorem test_access_atomic_always_aligned :
    accessStatus false 0xc321100000000000 [(1, 0x1002), (2, 1)] = .faulted (.misaligned 0x1012) := by decide

theorem test_access_cmpxchg_read_only :
    accessStatus true 0xc3210000f1000000 [(0, 1), (1, 0x2000), (2, 1)] = .faulted (.memFault 0x2000) := by decide

theorem test_cmpxchg_reads_register_zero :
    accessStatus true 0xc3211000f1000000 [(1, 0x1000), (2, 1)] = .faulted (.uninitRegister 0) := by decide

/-! ### Atomics (2.5) -/

/-- One atomic of `n` bytes at 0x1010 that holds `old`: the memory operand after it is `new` and the register is
`r`. -/
def atomically (row : Slot × List (RegNum × Word) × (Nat × Word × Word) × RegNum × Word) : Bool :=
  let n := row.2.2.1.1
  let t := afterStep (testState (testConfig .little) 0 [row.1] row.2.1
    (Memory.writeValue [] .little 0x1010 n row.2.2.1.2.1))
  t.mem == Memory.writeValue [] .little 0x1010 n row.2.2.1.2.2 && t.status == .running &&
    Regs.get t.regs row.2.2.2.1 == some row.2.2.2.2

theorem test_vectors_atomic_w :
    ([(slot 0xc321100000000000, [(1, 0x1000), (2, 0xaaaaaaaa00000001)], (4, 0xffffffff, 0x0), 2, 0xaaaaaaaa00000001),
      (slot 0xc321100001000000, [(1, 0x1000), (2, 0xaaaaaaaa00000001)], (4, 0xffffffff, 0x0), 2, 0xffffffff),
      (slot 0xc321100040000000, [(1, 0x1000), (2, 0xf0)], (4, 0xf, 0xff), 2, 0xf0),
      (slot 0xc321100051000000, [(1, 0x1000), (2, 0x0)], (4, 0x1234, 0x0), 2, 0x1234),
      (slot 0xc3211000a0000000, [(1, 0x1000), (2, 0xffffffff)], (4, 0xf0f0f0f, 0xf0f0f0f0), 2, 0xffffffff),
      (slot 0xc3211000e1000000, [(1, 0x1000), (2, 0xaaaaaaaa00000007)], (4, 0x80000000, 0x7), 2, 0x80000000),
      (slot 0xc3211000f1000000, [(0, 0xeeeeeeee00000009), (1, 0x1000), (2, 0x7)], (4, 0x9, 0x7), 0, 0x9),
      (slot 0xc3211000f1000000, [(0, 0x8), (1, 0x1000), (2, 0x7)], (4, 0x9, 0x9), 0, 0x9)] :
      List (Slot × List (RegNum × Word) × (Nat × Word × Word) × RegNum × Word)).all atomically = true := by decide

theorem test_vectors_atomic_dw :
    ([(slot 0xdb21100000000000, [(1, 0x1000), (2, 0x1)], (8, 0xffffffffffffffff, 0x0), 2, 0x1),
      (slot 0xdb21100001000000, [(1, 0x1000), (2, 0x5)], (8, 0x100000000, 0x100000005), 2, 0x100000000),
      (slot 0xdb21100041000000, [(1, 0x1000), (2, 0x8000000000000000)], (8, 0x1, 0x8000000000000001), 2, 0x1),
      (slot 0xdb21100050000000, [(1, 0x1000), (2, 0xff)], (8, 0x1234, 0x34), 2, 0xff),
      (slot 0xdb211000a1000000, [(1, 0x1000), (2, 0xffffffffffffffff)], (8, 0x0, 0xffffffffffffffff), 2, 0x0),
      (slot 0xdb211000e1000000, [(1, 0x1000), (2, 0x7)], (8, 0x9, 0x7), 2, 0x9),
      (slot 0xdb211000f1000000, [(0, 0x9), (1, 0x1000), (2, 0x7)], (8, 0x9, 0x7), 2, 0x7),
      (slot 0xdb211000f1000000, [(0, 0x100000009), (1, 0x1000), (2, 0x7)], (8, 0x9, 0x9), 0, 0x9),
      (slot 0xdb011000f1000000, [(0, 0x9), (1, 0x1000)], (8, 0x9, 0x9), 1, 0x1000),
      (slot 0xdb11100001000000, [(1, 0x1000)], (8, 0x3, 0x1003), 1, 0x3)] :
      List (Slot × List (RegNum × Word) × (Nat × Word × Word) × RegNum × Word)).all atomically = true := by decide

/-! ### 64-bit immediates (2.6) -/

/-- A platform with a map, a variable and a code address. -/
def platformConfig : Config :=
  { testConfig .little with
    mapByFd := [(3, 0x3000)]
    mapByIdx := [(0, 0x3000)]
    mapVal := [(0x3000, 0x2000)]
    varAddr := [(3, 0x4000)]
    codeAddr := [((0, -1), 0x5000)] }

/-- One wide load at pc 0: x[1], the pc and the status after it. -/
def wideLoad (cfg : Config) (w w2 : BitVec 64) : Option Word × Nat × RunStatus :=
  let t := afterStep (testState cfg 0 [slot w, slot w2] [] [])
  (Regs.get t.regs 1, t.pc, t.status)

theorem test_ld_imm64 :
    wideLoad (testConfig .little) 0x18010000efcdab89 0x0000000067452301 =
      (some 0x0123456789abcdef, 2, .running) := by decide

theorem test_ld_imm64_negative_imm :
    wideLoad (testConfig .little) 0x18010000ffffffff 0 = (some 0xffffffff, 2, .running) := by decide

theorem test_ld_map_by_fd :
    wideLoad platformConfig 0x1811000003000000 0 = (some 0x3000, 2, .running) := by decide

theorem test_ld_map_by_fd_refused :
    wideLoad (testConfig .little) 0x1811000003000000 0 = (none, 0, .faulted (.platformRefused 1 3)) := by decide

theorem test_ld_map_val_by_fd :
    wideLoad platformConfig 0x1821000003000000 0x0000000008000000 = (some 0x2008, 2, .running) := by decide

theorem test_ld_var_addr : wideLoad platformConfig 0x1831000003000000 0 = (some 0x4000, 2, .running) := by decide

theorem test_ld_code_addr :
    wideLoad platformConfig 0x18410000ffffffff 0 = (some 0x5000, 2, .running) := by decide

theorem test_ld_map_val_by_idx :
    wideLoad platformConfig 0x1861000000000000 0x00000000ffffffff = (some 0x100001fff, 2, .running) := by decide

/-! ### Illegal encodings, groups and fault order (2.5, 2.6, 2.7) -/

/-- GROUPS of a machine with base32 alone. -/
def baseOnly : Config :=
  { testConfig .little with groups := ⟨true, false, false, false, false, false, false⟩ }

theorem test_illegal_encodings_a :
    ([[slot 0x8c21000000000000],
      [slot 0x8701000001000000],
      [slot 0xe401000000000000],
      [slot 0xf701000000000000],
      [slot 0xe501000000000000],
      [slot 0xdf01000010000000],
      [slot 0xd401000008000000],
      [slot 0xdc01000000000000],
      [slot 0xd411000010000000],
      [slot 0x0721000005000000],
      [slot 0x0f21000005000000],
      [slot 0x0701010005000000],
      [slot 0x0fb1000000000000],
      [slot 0x070f000005000000],
      [slot 0x3701020005000000],
      [slot 0xbc21200000000000],
      [slot 0xbf21180000000000],
      [slot 0xb701080005000000],
      [slot 0x0d00010000000000],
      [slot 0x0500010001000000],
      [slot 0x0501010000000000],
      [slot 0x0600010001000000],
      [slot 0x8600000001000000]] : List (List Slot)).all (isIllegal (testConfig .little)) = true := by decide

theorem test_illegal_encodings_b :
    ([[slot 0x8d00000001000000],
      [slot 0x8530000001000000],
      [slot 0x8510010001000000],
      [slot 0x9600000000000000],
      [slot 0x9d00000000000000],
      [slot 0x9500000001000000],
      [slot 0x1521010000000000],
      [slot 0x1d21010001000000],
      [slot 0x6021000000000000],
      [slot 0x3800000000000000],
      [slot 0xa121000000000000],
      [slot 0xe321000000000000],
      [slot 0x200000000e000000],
      [slot 0xc321000010000000],
      [slot 0xc321000020000000],
      [slot 0xc3210000e0000000],
      [slot 0xc3210000f0000000],
      [slot 0xc321000002000000],
      [slot 0xc321000000010000],
      [slot 0xc3210000b1000000],
      [slot 0xcb21000000000000],
      [slot 0xd321000000000000],
      [slot 0xc221000000000000],
      [slot 0xc121000000000000]] : List (List Slot)).all (isIllegal (testConfig .little)) = true := by decide

theorem test_illegal_encodings_wide :
    ([[slot 0x1801010005000000, slot 0x0000000000000000],
      [slot 0x1801000005000000, slot 0xb700000000000000],
      [slot 0x1801000005000000, slot 0x0001000000000000],
      [slot 0x1801000005000000],
      [slot 0x1871000005000000, slot 0x0000000000000000],
      [slot 0x180b000005000000, slot 0x0000000000000000],
      [slot 0x1811000003000000, slot 0x0000000004000000],
      [slot 0x0000000034120000],
      [slot 0x1001000000000000, slot 0x0000000000000000]] : List (List Slot)).all (isIllegal (testConfig .little)) = true := by decide

theorem test_illegal_without_group :
    ([[slot 0x2401000003000000],
      [slot 0x0701000003000000],
      [slot 0x1501010001000000],
      [slot 0xd701000040000000],
      [slot 0xd401000040000000]] : List (List Slot)).all (isIllegal baseOnly) = true := by decide

theorem test_bswap16_is_base32 :
    (afterStep (testState baseOnly 0 [slot 0xd701000010000000] [(1, 1)] [])).status = .running := by decide

theorem test_packet_unsupported :
    (afterStep (testState { testConfig .little with groups := ⟨true, true, true, true, true, true, true⟩ } 0
      [slot 0x200000000e000000] [] [])).status = .faulted (.unsupported 0) := by decide

theorem test_uninit_first_operand :
    (afterStep (testState (testConfig .little) 0 [slot 0x0f21000000000000] [] [])).status =
      .faulted (.uninitRegister 1) := by decide

theorem test_uninit_xor_with_itself :
    (afterStep (testState (testConfig .little) 0 [slot 0xaf11000000000000] [] [])).status =
      .faulted (.uninitRegister 1) := by decide

theorem test_r10_read_only :
    (afterStep (testState { testConfig .little with r10ReadOnly := true } 0 [slot 0xb70a000000000000] [] [])).status =
      .faulted (.illegalInstruction 0) := by decide

/-! ### The opcode table's words -/

theorem test_table_word_basic : decodeTableWord 64 0x1122334400000107 = some (.addAlu64K 1 0x11223344) := by decide

theorem test_table_word_wide :
    decodeTableWord 128 0x0123456700000000_89abcdef00000118 = some (.ldImm64 1 0x89abcdef 0x01234567) := by decide

theorem test_fetch_word_runs :
    Regs.get (afterStep (State.reset.withFetchWord 64 0x1122334400000107)).regs 1 = some 0x11223344 := by decide

/-! ### Witnesses: concrete states and operands that meet the hypotheses of the statements, at their boundaries -/

/-- A machine that supports every group and has the platform functions of `platformConfig`. -/
def fullConfig (e : Endian) : Config :=
  { platformConfig with
    endian := e
    groups := ⟨true, true, true, true, true, true, true⟩ }

/-- A state at slot 2 of a program of eight MOVs, with registers 0, 1, 2 and 10 set; x[1] is the start of the read-write
region, x[2] its last aligned doubleword. -/
def ready (cfg : Config) : State :=
  testState cfg 2 [] [(0, 0x2a), (1, 0x1000), (2, 0x10f8), (10, 0x1000)] (bytesAt 0x1000 [0x2a])

/-- `ready` on a little-endian host. -/
def readyLittle : State := ready (fullConfig .little)

/-- `ready` at slot 2 with the given slots there. -/
def readyWith (cfg : Config) (slots : List Slot) : State := { ready cfg with program := programOf 2 slots }

/-- The state after executing an instruction; the state itself where there is none. -/
def afterExec (i : Instr) (s : State) : State :=
  match exec i s with
  | .next t => t
  | .fault _ => s
  | .refused _ => s

theorem witness_DecodeEncode : (Instr.atomicCmpxchgDw 10 10 0xffff).wf = true := by decide

theorem witness_EncodeDecode :
    readInstr .big [slot 0x1800000089abcdef, slot 0x0000000001234567, slot 0] = some (.ldImm64 0 0x89abcdef 0x01234567) ∧
      readInstr .little [slot 0xbfaa000000000000] = some (.movAlu64X 10 10) := by decide

theorem witness_DecodedWordMatchesRow :
    readInstr .little [slot 0x1810000000000000, slot 0] = some (.ldMapByFd 0 0) ∧
      (Instr.ldMapByFd 0 0).row.maskNext = some 0xffffffffffffffff := by decide

theorem witness_RowsAreExclusive :
    (0x0500000a07 : BitVec 64) &&& (Instr.addAlu64K 10 5).row.mask = (Instr.addAlu64K 10 5).row.value ∧
      (0x0500000a07 : BitVec 64) &&& (Instr.addAlu64K 1 7).row.mask = (Instr.addAlu64K 1 7).row.value := by decide

theorem witness_CallSubtypes : 2 < (3 : RegNum).toNat ∧ (1 : RegNum) ≠ 0 ∧ (0xffff : Offset) ≠ 0 := by decide

theorem witness_AtomicSelectors :
    (10 : RegNum).toNat ≤ 10 ∧
      (0xf0 : Imm) ∉ [(0x00 : Imm), 0x01, 0x40, 0x41, 0x50, 0x51, 0xa0, 0xa1, 0xe1, 0xf1] := by decide

theorem witness_SwapWidths :
    (10 : RegNum).toNat ≤ 10 ∧ (17 : Imm) ≠ 16 ∧ (17 : Imm) ≠ 32 ∧ (17 : Imm) ≠ 64 := by decide

theorem witness_NegAndMovsxForms :
    (10 : RegNum).toNat ≤ 10 ∧ (1 : RegNum) ≠ 0 ∧ (8 : Offset) ≠ 0 ∧ (0x80000000 : Imm) ≠ 0 := by decide

/-- The hypotheses under which a step runs a decoded instruction. -/
def runsNext (s : State) (i : Instr) : Bool :=
  s.status == .running && decide (s.pc < s.program.length) && !isSecondSlot s.program s.pc &&
    readInstr s.cfg.endian (s.program.drop s.pc) == some i

theorem witness_StepRunsDecodedInstruction :
    runsNext (readyWith (fullConfig .little) [slot 0x0f21000000000000]) (.addAlu64X 1 2) = true ∧
      runsNext { readyLittle with pc := 7 } (.movAlu64K 0 0) = true := by decide

theorem witness_FetchFaults :
    (readyLittle.status = .running ∧ readyLittle.program.length ≤ { readyLittle with pc := 8 }.pc) ∧
      isSecondSlot (readyWith (fullConfig .little) [slot 0x1801000000000000, slot 0]).program 3 = true ∧
      readInstr .little ((readyWith (fullConfig .little) [slot 0xff00000000000000]).program.drop 2) = none := by decide

theorem witness_EndedRunHasNoStep :
    { readyLittle with status := .exited }.status = .exited ∧
      { readyLittle with status := .faulted (.unsupported 2) }.status = .faulted (.unsupported 2) ∧
      step readyLittle = .next (afterStep readyLittle) := ⟨rfl, rfl, rfl⟩

/-- A state of a platform with PacketAccess and the packet group, about to load from an address outside every region. -/
def aboutToFault : State :=
  readyWith { fullConfig .little with packetAccess := true } [slot 0x7100000000000000]

/-- The decoded instruction is no packet load, so the premise on packet loads holds of every `i`. -/
theorem witness_FaultChangesOnlyStatus :
    (aboutToFault.cfg.packetAccess = true ∧ aboutToFault.cfg.groups.packet = true) ∧
      decode aboutToFault.cfg.endian (aboutToFault.program.drop aboutToFault.pc) = .ok (.ldxMemB 0 0 0) ∧
      (∀ i, decode aboutToFault.cfg.endian (aboutToFault.program.drop aboutToFault.pc) = .ok i → i.group = .packet →
        aboutToFault.cfg.groups.packet = true → aboutToFault.cfg.packetAccess = false) ∧
      step aboutToFault = .next (afterStep aboutToFault) ∧
      (afterStep aboutToFault).status = .faulted (.memFault 0x2a) :=
  ⟨by decide, rfl, (fun i h hg => by cases h; cases hg), rfl, by decide⟩

theorem witness_ProgramAndParametersFixed : step readyLittle = .next (afterStep readyLittle) := rfl

/-- A base32 machine about to multiply, and one at an undefined opcode. -/
theorem witness_UnsupportedGroupIsIllegal :
    runsNext (readyWith baseOnly [slot 0x2c21000000000000]) (.mulAluX 1 2) = true ∧
      Groups.has baseOnly.groups (Instr.mulAluX 1 2).group = false ∧
      readInstr .little ((readyWith baseOnly [slot 0xff00000000000000]).program.drop 2) = none := by decide

theorem witness_RegisterFieldChecks :
    (Instr.movAlu64X 0 11).wf = false ∧ (Instr.ldIndB 15 0).wf = false ∧
      { fullConfig .little with r10ReadOnly := true }.r10ReadOnly = true ∧
      (Instr.atomicXchgDw 1 10 0).written = some 10 := by decide

theorem witness_UninitRegister :
    Claims.MayRun readyLittle (.addAlu64X 3 4) ∧
      (Instr.addAlu64X 3 4).reads.find? (fun q => (Regs.get readyLittle.regs q).isNone) = some 3 ∧
      Claims.MayRun readyLittle (.ldIndW 9 0) ∧
      (Instr.ldIndW 9 0).reads.find? (fun q => (Regs.get readyLittle.regs q).isNone) = some 9 := by decide

theorem witness_OnlyWrittenRegisterChanges :
    exec (.atomicCmpxchgDw 2 1 0) readyLittle = .next (afterExec (.atomicCmpxchgDw 2 1 0) readyLittle) ∧
      ¬ Claims.IsPlatforms (.atomicCmpxchgDw 2 1 0) ∧ (10 : RegNum) ∉ (Instr.atomicCmpxchgDw 2 1 0).writes :=
  ⟨rfl, by decide, by decide⟩

theorem witness_NonStoringFormsKeepMemory :
    exec (.ldxMemDw 3 1 0) readyLittle = .next (afterExec (.ldxMemDw 3 1 0) readyLittle) ∧
      ¬ Claims.IsPlatforms (.ldxMemDw 3 1 0) ∧ (Instr.ldxMemDw 3 1 0).storeSize = 0 := ⟨rfl, by decide, by decide⟩

/-- CALL_LOCAL appends the slot after it. -/
theorem witness_CallStackOnlyByCallAndExit :
    exec (.callLocal 4) readyLittle = .next (afterExec (.callLocal 4) readyLittle) ∧
      (afterExec (.callLocal 4) readyLittle).callstack = [3] := ⟨rfl, by decide⟩

/-- EXIT removes the newest of two return slots and continues there. -/
theorem witness_CallStackOnlyByCallAndExit_exit :
    exec .exit { readyLittle with callstack := [6, 3] } =
        .next (afterExec .exit { readyLittle with callstack := [6, 3] }) ∧
      (afterExec .exit { readyLittle with callstack := [6, 3] }).callstack = [6] ∧
      (afterExec .exit { readyLittle with callstack := [6, 3] }).pc = 3 := ⟨rfl, by decide, by decide⟩

theorem witness_RegistersKeepValues :
    exec (.movAlu64K 10 5) readyLittle = .next (afterExec (.movAlu64K 10 5) readyLittle) ∧
      ¬ Claims.IsPlatforms (.movAlu64K 10 5) ∧ Regs.get readyLittle.regs 10 ≠ none := ⟨rfl, by decide, by decide⟩

/-- A machine with R10_READ_ONLY about to write x[9]. -/
def readOnlyTen : State := ready { fullConfig .little with r10ReadOnly := true }

theorem witness_ReadOnlyR10 :
    readOnlyTen.cfg.r10ReadOnly = true ∧
      exec (.movAlu64X 9 10) readOnlyTen = .next (afterExec (.movAlu64X 9 10) readOnlyTen) ∧
      ¬ Claims.IsPlatforms (.movAlu64X 9 10) := ⟨by decide, rfl, by decide⟩

/-- A program of a wide instruction and an EXIT. -/
def wideThenExit : List Slot := [slot 0x1801000000000000, slot 0, slot 0x9500000000000000]

theorem witness_SecondSlotScan :
    (0 + 1 < wideThenExit.length ∧ wideThenExit[0]? = some (slot 0x1801000000000000)) ∧
      1 + 1 < wideThenExit.length ∧ wideThenExit[1]? = some (slot 0) ∧ isSecondSlot wideThenExit 1 = true ∧
      isSecondSlot wideThenExit 2 = false := by decide

theorem witness_InvAtReset :
    (bytesAt 0x10ff [1]).wf = true ∧ ∀ c ∈ bytesAt 0x10ff [1], byteExists (testConfig .little).regions c.1 = true := by
  decide

/-- The start state of `wideThenExit`. -/
def startOfWide : State := State.start (testConfig .little) wideThenExit resetRegs [] 0

theorem witness_StepKeepsInv : Inv startOfWide ∧ step startOfWide = .next (afterStep startOfWide) :=
  ⟨{ mem_wf := by decide
     mem_exists := by decide
     depth := by decide
     returns := by intro r hr; nomatch hr
     pc := fun _ _ => ⟨by decide, by decide⟩ }, rfl⟩

/-- A well-formed program that raises a fault of another kind: MOV x[1] = 0, then a load through x[1], then EXIT. -/
def loadsNowhere : List Slot := [slot 0xb701000000000000, slot 0x7910000000000000, slot 0x9500000000000000]

/-- Its state after both instructions. -/
def afterNowhere : State := afterStep (afterStep (State.start (testConfig .little) loadsNowhere resetRegs [] 0))

theorem witness_WellFormedProgramsDecode :
    programWellFormed (testConfig .little) loadsNowhere = true ∧ (testConfig .little).groups.packet = false ∧
      (testConfig .little).helpers = [] ∧ Reaches (State.start (testConfig .little) loadsNowhere resetRegs [] 0) afterNowhere ∧
      afterNowhere.status = .faulted (.memFault 0) :=
  ⟨by decide, by decide, by decide, .step (.step .start rfl) rfl, by decide⟩

/-! Operands of the arithmetic tables: x[1] and x[2] hold values, and all register numbers up to 10 are admitted. -/

theorem witness_Alu32Results :
    Regs.get readyLittle.regs 10 = some 0x1000 ∧ Regs.get readyLittle.regs 0 = some 0x2a ∧
      ∀ p ∈ Claims.alu32Table 10 0 0xffffffff 0x1000 0x2a, Claims.MayRun readyLittle p.1 := by decide

theorem witness_Alu64Results :
    Regs.get readyLittle.regs 10 = some 0x1000 ∧ Regs.get readyLittle.regs 0 = some 0x2a ∧
      ∀ p ∈ Claims.alu64Table 10 0 0xffffffff 0x1000 0x2a, Claims.MayRun readyLittle p.1 := by decide

theorem witness_DivMul32Results :
    Regs.get readyLittle.regs 10 = some 0x1000 ∧ Regs.get readyLittle.regs 0 = some 0x2a ∧
      ∀ p ∈ Claims.divmul32 10 0 0 0x1000 0x2a, Claims.MayRun readyLittle p.1 := by decide

theorem witness_DivMul64Results :
    Regs.get readyLittle.regs 10 = some 0x1000 ∧ Regs.get readyLittle.regs 0 = some 0x2a ∧
      ∀ p ∈ Claims.divmul64 10 0 0 0x1000 0x2a, Claims.MayRun readyLittle p.1 := by decide

theorem witness_ShiftResults :
    Regs.get readyLittle.regs 10 = some 0x1000 ∧ Regs.get readyLittle.regs 1 = some 0x1000 ∧
      (∀ p ∈ Claims.shifts 10 1 64 0x1000 0x1000, Claims.MayRun readyLittle p.1) ∧
      ∀ p ∈ Claims.shifts 10 1 64 0x1000 0x1000, p.2.2.2 = 0 := by decide

/-- x[1] holds a value whose low half is zero, x[2] zero. -/
def zeroes : State := testState (fullConfig .little) 2 [] [(1, 0xffffffff00000000), (2, 0)] []

theorem witness_DivisionByZero :
    Regs.get zeroes.regs 1 = some 0xffffffff00000000 ∧ Regs.get zeroes.regs 2 = some 0 ∧
      (∀ p ∈ Claims.zeroDivisor 1 2 0 0xffffffff00000000 0, Claims.MayRun zeroes p.1) ∧
      (0 : Imm).toNat = 0 ∧ Claims.low 0xffffffff00000000 = 0 ∧ (0 : Word).toNat = 0 := by decide

/-- x[1] holds the most negative numbers of both widths' low and high halves, x[2] minus one. -/
def extremes (v : Word) : State := testState (fullConfig .little) 2 [] [(1, v), (2, 0xffffffffffffffff)] []

theorem witness_SignedOverflow :
    (Regs.get (extremes 0x80000000).regs 1 = some 0x80000000 ∧ Claims.low 0x80000000 = 2 ^ 31 ∧
      (0xffffffff : Imm).toNat = 2 ^ 32 - 1 ∧ Claims.low 0xffffffffffffffff = 2 ^ 32 - 1 ∧
      ∀ p ∈ Claims.signedOverflow 1 2 0xffffffff 0x80000000 0xffffffffffffffff,
        Claims.MayRun (extremes 0x80000000) p.1) ∧
    (Regs.get (extremes 0x8000000000000000).regs 1 = some 0x8000000000000000 ∧
      (0x8000000000000000 : Word).toNat = 2 ^ 63 ∧ (0xffffffffffffffff : Word).toNat = 2 ^ 64 - 1) ∧
    Regs.get (extremes 0x80000000).regs 2 = some 0xffffffffffffffff := by decide

theorem witness_TruncatedRemainder :
    Regs.get (extremes 0x80000000).regs 1 = some 0x80000000 ∧
      Regs.get (extremes 0x80000000).regs 2 = some 0xffffffffffffffff ∧
      ∀ p ∈ Claims.signedRemainders 1 2 3 0x80000000 0xffffffffffffffff,
        Claims.MayRun (extremes 0x80000000) p.1 ∧ p.2.2.2 ≠ 0 := by decide

theorem witness_NoArithmeticFault :
    ((Instr.sdivAluX 1 2).fields.opcode.extractLsb' 0 3 = 4 ∧ (Instr.sdivAlu64X 1 2).fields.opcode.extractLsb' 0 3 = 7) ∧
      Claims.MayRun zeroes (.sdivAluX 1 2) ∧ Claims.MayRun zeroes (.sdivAlu64X 1 2) ∧
      ∀ r ∈ (Instr.sdivAluX 1 2).reads, Regs.get zeroes.regs r ≠ none := by decide

theorem witness_MoveResults :
    (∀ p ∈ Claims.movesK 9 0x80000000, Claims.MayRun readyLittle p.1) ∧ Regs.get readyLittle.regs 9 = none ∧
      Regs.get readyLittle.regs 10 = some 0x1000 ∧ ∀ p ∈ Claims.movesX 9 10 0x1000, Claims.MayRun readyLittle p.1 := by
  decide

theorem witness_NegationResults :
    Regs.get readyLittle.regs 10 = some 0x1000 ∧ Claims.MayRun readyLittle (.negAlu 10) ∧
      Claims.MayRun readyLittle (.negAlu64 10) := by decide

/-- The registers of `ready` with every upper half set: only the upper halves differ. -/
def upperSet : Regs := regsOf [(0, 0xffffffff0000002a), (1, 0xffffffff00001000), (2, 0xffffffff000010f8),
  (10, 0xffffffff00001000)]

theorem witness_UpperHalvesIgnored :
    readyLittle.status = .running ∧ (Instr.arshAluX 1 2).fields.opcode.extractLsb' 0 3 = 4 ∧
      (Instr.arshAluX 1 2).fields.opcode.extractLsb' 4 4 ≠ 0xd ∧
      (∀ r, (Regs.get readyLittle.regs r).map Claims.low = (Regs.get upperSet r).map Claims.low) ∧
      (afterExec (.arshAluX 1 2) readyLittle).status = .running := by decide

theorem witness_ByteSwapResults :
    Regs.get readyLittle.regs 10 = some 0x1000 ∧
      (∀ p ∈ Claims.swaps 10 .little, Claims.MayRun readyLittle p.1) ∧
      ∀ p ∈ Claims.swaps 10 .big, Claims.MayRun (ready (fullConfig .big)) p.1 := by decide

theorem witness_UnconditionalJumps :
    (∀ p ∈ Claims.jumps 5 0xfffffffd, Claims.MayRun readyLittle p.1) ∧
      Claims.ValidTarget readyLittle (readyLittle.pc + 1 + (4 : Offset).toInt) ∧
      ¬ Claims.ValidTarget readyLittle (readyLittle.pc + 1 + (5 : Offset).toInt) ∧
      Claims.ValidTarget readyLittle (readyLittle.pc + 1 + (0xfffffffd : Imm).toInt) ∧
      ¬ Claims.ValidTarget readyLittle (readyLittle.pc + 1 + (0xfffffffc : Imm).toInt) := by decide

/-- Not taken, taken to a valid target, and taken to an invalid one. -/
theorem witness_ConditionalJumps :
    (Regs.get readyLittle.regs 1 = some 0x1000 ∧ Regs.get readyLittle.regs 10 = some 0x1000 ∧
      ∀ p ∈ Claims.condJumps 1 10 4 0 0x1000 0x1000, Claims.MayRun readyLittle p.1) ∧
      (0x1000 : Word).toNat = (0x1000 : Word).toNat ∧ ¬ (0x1000 : Word).toNat < (0x1000 : Word).toNat ∧
      Claims.ValidTarget readyLittle (readyLittle.pc + 1 + (4 : Offset).toInt) ∧
      ¬ Claims.ValidTarget readyLittle (readyLittle.pc + 1 + (0xfffc : Offset).toInt) := by decide

theorem witness_LocalCall :
    Claims.MayRun readyLittle (.callLocal 4) ∧ readyLittle.callstack.length < readyLittle.cfg.maxCallDepth ∧
      Claims.ValidTarget readyLittle (readyLittle.pc + 1 + (4 : Imm).toInt) ∧
      ¬ Claims.ValidTarget readyLittle (readyLittle.pc + 1 + (5 : Imm).toInt) ∧
      { readyLittle with callstack := [1, 1, 1, 1, 1, 1, 1, 1] }.cfg.maxCallDepth ≤
        { readyLittle with callstack := [1, 1, 1, 1, 1, 1, 1, 1] }.callstack.length := by decide

theorem witness_ExitReturnsOrEnds :
    Claims.MayRun readyLittle .exit ∧ readyLittle.callstack = [] ∧
      { readyLittle with callstack := [3] }.callstack = [] ++ [3] := by decide

theorem witness_CallThenExit :
    readyLittle.status = .running ∧ exec (.callLocal 0) readyLittle = .next (afterExec (.callLocal 0) readyLittle) ∧
      (afterExec (.callLocal 0) readyLittle).status = .running ∧
      Claims.MayRun (afterExec (.callLocal 0) readyLittle) .exit := ⟨by decide, rfl, by decide, by decide⟩

theorem witness_HelperCalls :
    readyLittle.mem.wf = true ∧ (∀ p ∈ Claims.helperCalls 0xffffffff, Claims.MayRun readyLittle p.1) ∧
      (∀ p ∈ Claims.helperCalls 0xffffffff, (p.2, (0xffffffff : Imm)) ∉ readyLittle.cfg.helpers) ∧
      ∀ p ∈ Claims.helperCalls 1,
        Claims.MayRun (ready { fullConfig .little with helpers := [(.staticId, 1), (.btfId, 1)] }) p.1 ∧
          (p.2, (1 : Imm)) ∈ (ready { fullConfig .little with helpers := [(.staticId, 1), (.btfId, 1)] }).cfg.helpers := by
  decide

theorem witness_LoadResults :
    Regs.get readyLittle.regs 2 = some 0x10f8 ∧ ∀ p ∈ Claims.loads 9 2 0, Claims.MayRun readyLittle p.1 ∧
      Claims.AccessOk readyLittle .load (effAddr 0x10f8 0).toNat p.2.1 := by decide

theorem witness_StoreResults :
    readyLittle.mem.wf = true ∧ Regs.get readyLittle.regs 2 = some 0x10f8 ∧ Regs.get readyLittle.regs 0 = some 0x2a ∧
      ∀ p ∈ Claims.stores 2 0 0 0xffffffff 0x2a, Claims.MayRun readyLittle p.1 ∧
        Claims.AccessOk readyLittle .store (effAddr 0x10f8 0).toNat p.2.1 := by decide

theorem witness_StoreThenLoad :
    (readyLittle.mem.wf = true ∧ readyLittle.status = .running ∧ Regs.get readyLittle.regs 2 = some 0x10f8 ∧
      Regs.get readyLittle.regs 0 = some 0x2a) ∧
      exec (.stxMemDw 2 0 0) readyLittle = .next (afterExec (.stxMemDw 2 0 0) readyLittle) ∧
      ((afterExec (.stxMemDw 2 0 0) readyLittle).status = .running ∧
        Claims.MayRun (afterExec (.stxMemDw 2 0 0) readyLittle) (.ldxMemDw 9 2 0) ∧
        Claims.AccessOk (afterExec (.stxMemDw 2 0 0) readyLittle) .load (effAddr 0x10f8 0).toNat 8) :=
  ⟨by decide, rfl, by decide⟩

/-- x[1] = 0x1100, the first address above the region, and x[2] = 0x1001, misaligned for all but bytes; no other register
holds a value. -/
def badAddresses : State := testState (fullConfig .little) 2 [] [(1, 0x1100), (2, 0x1001)] []

/-- A load may name a destination without a value, and x[0] need hold one for CMPXCHG alone: the 33 other forms with the
base x[1], the loads into x[9]. -/
theorem witness_AccessFaults :
    (∀ p ∈ (Claims.accesses 9 1 0 0).take 7, (Regs.get badAddresses.regs 9 = none ∧
        Regs.get badAddresses.regs p.2.2.2.1 = some 0x1100) ∧ p.2.2.2.2 = [] ∧ Claims.MayRun badAddresses p.1) ∧
      (∀ p ∈ (Claims.accesses 1 2 0 0).drop 7, Regs.get badAddresses.regs p.2.2.2.1 = some 0x1100) ∧
      (∀ p ∈ (Claims.accesses 1 2 0 0).drop 7, p.2.2.2.2.all fun q => q == 0 || (Regs.get badAddresses.regs q).isSome) ∧
      ((Claims.accesses 1 2 0 0).filter fun p => p.2.2.2.2.contains 0).map (fun p => p.1) =
        [.atomicCmpxchgW 1 2 0, .atomicCmpxchgDw 1 2 0] ∧
      (∀ p ∈ (Claims.accesses 1 2 0 0).drop 7, Claims.MayRun badAddresses p.1) ∧
      (effAddr 0x1100 0).toNat = 0x1100 ∧ (effAddr 0x1001 0).toNat = 0x1001 :=
  ⟨by decide, by decide, by decide, by decide, by decide, by decide, by decide⟩

/-- CMPXCHG at x[2] = 0x1001 once x[0] holds a value. -/
theorem witness_AccessFaults_cmpxchg :
    ∀ p ∈ [(Instr.atomicCmpxchgW 2 1 0, 4), (.atomicCmpxchgDw 2 1 0, 8)],
      Claims.MayRun { badAddresses with regs := Regs.set badAddresses.regs 0 0 } p.1 ∧
        (∀ q ∈ [(1 : RegNum), 0], Regs.get (Regs.set badAddresses.regs 0 0) q ≠ none) ∧
        Regs.get (Regs.set badAddresses.regs 0 0) 2 = some 0x1001 := by decide

/-- Nothing is within a region at 0x1100, the first address above one; at 0x1001 everything is, misaligned unless it is
one byte. -/
theorem witness_AccessFaults_boundaries :
    (∀ n ∈ [1, 2, 4, 8], ¬ Claims.InRegion badAddresses .load 0x1100 n) ∧
      (∀ n ∈ [1, 2, 4, 8], ¬ Claims.InRegion badAddresses .store 0x1100 n) ∧
      (∀ n ∈ [4, 8], ¬ Claims.InRegion badAddresses .atomic 0x1100 n) ∧
      (∀ n ∈ [2, 4, 8], Claims.InRegion badAddresses .load 0x1001 n ∧ ¬ Claims.AlignedFor badAddresses .load 0x1001 n) ∧
      (∀ n ∈ [2, 4, 8], Claims.InRegion badAddresses .store 0x1001 n ∧
        ¬ Claims.AlignedFor badAddresses .store 0x1001 n) ∧
      (∀ n ∈ [4, 8], Claims.InRegion badAddresses .atomic 0x1001 n ∧
        ¬ Claims.AlignedFor badAddresses .atomic 0x1001 n) ∧
      ¬ Claims.InRegion badAddresses .atomic 0x10fc 8 ∧ Claims.InRegion badAddresses .atomic 0x10fc 4 :=
  ⟨by decide, by decide, by decide, by decide, by decide, by decide, by decide, by decide⟩

theorem witness_AtomicUpdates :
    (readyLittle.mem.wf = true ∧ Regs.get readyLittle.regs 10 = some 0x1000 ∧ Regs.get readyLittle.regs 0 = some 0x2a) ∧
      ∀ p ∈ Claims.atomicUpdates 10 0 0 0x2a 0x2a, Claims.MayRun readyLittle p.1 ∧
        Claims.AccessOk readyLittle .atomic (effAddr 0x1000 0).toNat p.2.1 ∧
        ((0x2a : Word).toNat < 2 ^ (8 * p.2.1) ∧ ∀ k < p.2.1,
          readyLittle.mem.read ((effAddr 0x1000 0).toNat + Claims.hostByte readyLittle.cfg.endian p.2.1 k) =
            (0x2a : Word).extractLsb' (8 * k) 8) := by decide

theorem witness_AtomicFetches :
    (readyLittle.mem.wf = true ∧ Regs.get readyLittle.regs 10 = some 0x1000) ∧
      ∀ p ∈ Claims.atomicFetches 10 10 0 0x2a 0x1000, Claims.MayRun readyLittle p.1 ∧
        Claims.AccessOk readyLittle .atomic (effAddr 0x1000 0).toNat p.2.1 ∧
        ((0x2a : Word).toNat < 2 ^ (8 * p.2.1) ∧ ∀ k < p.2.1,
          readyLittle.mem.read ((effAddr 0x1000 0).toNat + Claims.hostByte readyLittle.cfg.endian p.2.1 k) =
            (0x2a : Word).extractLsb' (8 * k) 8) := by decide

/-- Both a comparison that holds (x[0] = 0x2a at 0x1000) and one that fails (at 0x10f8, where memory holds 0). -/
theorem witness_CompareExchange :
    (readyLittle.mem.wf = true ∧ Regs.get readyLittle.regs 10 = some 0x1000 ∧ Regs.get readyLittle.regs 2 = some 0x10f8 ∧
      Regs.get readyLittle.regs 0 = some 0x2a) ∧
      (∀ p ∈ Claims.exchanges 10 2 0, Claims.MayRun readyLittle p.1) ∧
      (∀ p ∈ Claims.exchanges 2 2 0, Claims.MayRun readyLittle p.1) ∧
      (effAddr 0x1000 0).toNat = 0x1000 ∧ (effAddr 0x10f8 0).toNat = 0x10f8 := by decide

theorem witness_CompareExchange_memory :
    ∀ n ∈ [4, 8],
      (Claims.AccessOk readyLittle .atomic 0x1000 n ∧ Claims.AccessOk readyLittle .atomic 0x10f8 n) ∧
        (∀ k < n, readyLittle.mem.read (0x1000 + Claims.hostByte .little n k) = (0x2a : Word).extractLsb' (8 * k) 8) ∧
        (∀ k < n, readyLittle.mem.read (0x10f8 + Claims.hostByte .little n k) = (0 : Word).extractLsb' (8 * k) 8) ∧
        (0x2a : Word).toNat = (0x2a : Word).toNat % 2 ^ (8 * n) ∧
        (0 : Word).toNat ≠ (0x2a : Word).toNat % 2 ^ (8 * n) := by decide

theorem witness_LoadImm64 : Claims.MayRun readyLittle (.ldImm64 10 0xffffffff 0xffffffff) := by decide

/-- Every platform function has an answer, and has none for another operand. -/
theorem witness_PlatformLoads :
    (∀ p ∈ Claims.platformLoads { readyLittle with pc := 0 } 10 3 0xffffffff, Claims.MayRun readyLittle p.1) ∧
      ((Claims.platformLoads { readyLittle with pc := 0 } 10 3 0xffffffff).map fun p => p.2.2.isSome) =
        [true, true, true, false, false, false] ∧
      ((Claims.platformLoads { readyLittle with pc := 0 } 10 0 0).map fun p => p.2.2.isSome) =
        [false, false, false, false, true, true] ∧
      ((Claims.platformLoads { readyLittle with pc := 0 } 10 0xffffffff 0).map fun p => p.2.2.isSome) =
        [false, false, false, true, false, false] := by decide

/-- The ABS loads with an empty register file, the IND loads with x[10] holding a value, without and with PacketAccess. -/
theorem witness_PacketLoads :
    readyLittle.mem.wf = true ∧ Regs.get readyLittle.regs 10 = some 0x1000 ∧
      (∀ p ∈ Claims.packetLoads 10 0xffffffff (some 0x1000), Claims.MayRun readyLittle p.1) ∧
      readyLittle.cfg.packetAccess = false ∧
      (∀ p ∈ Claims.packetLoads 10 0xffffffff (some 0x1000),
        Claims.MayRun (ready { fullConfig .little with packetAccess := true }) p.1) ∧
      (ready { fullConfig .little with packetAccess := true }).cfg.packetAccess = true := by decide

theorem witness_PacketLoads_abs :
    (∀ q ∈ [(0 : RegNum), 5, 10], Regs.get (testState (fullConfig .little) 2 [] [] []).regs q = none) ∧
      ((Claims.packetLoads 10 7 none).map fun p => p.2.1) = [.abs, .abs, .abs, .ind, .ind, .ind] ∧
      ∀ p ∈ (Claims.packetLoads 10 7 none).take 3, Claims.MayRun (testState (fullConfig .little) 2 [] [] []) p.1 := by
  decide
end Sys2Proof.Tests
end

