-- ==== Sys2Proof/Proofs/Encoding.lean ====
section
/-! The encoding of the worked example and the place of the register numbers (30_encoding.md R64, R67). -/

namespace Sys2Proof.Laws

/-! ### Decoding and reading the slots the encoder writes -/

/-- A decoder that reads an instruction back from its fields reads it back from its slots: laying the fields out on a
host and extracting them again changes nothing. -/
theorem decode_encode_of_fieldsDecode {i : Instr} (h : FieldsDecode.Statement i) (hwf : i.wf = true) (e : Endian)
    (rest : List Slot) : decode e (encode e i ++ rest) = .ok i := by
  have hfields := h hwf
  cases hsecond : i.secondImm with
  | none =>
    rw [hsecond] at hfields
    obtain ⟨hopcode, hbasic⟩ := hfields
    simp [encode, hsecond, decode, hopcode, hbasic]
  | some nextImm =>
    rw [hsecond] at hfields
    obtain ⟨hopcode, hwide⟩ := hfields
    simp [encode, hsecond, decode, hopcode, hwide]

/-- A one-slot instruction is its fields laid out once, so whatever is read from its slot's fields is read from them. -/
theorem map_fields_encode {α : Type} {i : Instr} (h : i.secondImm = none) (e : Endian) (read : Fields → α) :
    ((encode e i).map fun sl => read (sl.fields e)) = [read i.fields] := by
  simp [encode, h]

/-! ### The regs byte (R64) -/

theorem fields_little_src (sl : Slot) : (sl.fields .little).src = sl.b1.extractLsb' 4 4 := rfl

theorem fields_little_dst (sl : Slot) : (sl.fields .little).dst = sl.b1.extractLsb' 0 4 := rfl

theorem fields_big_dst (sl : Slot) : (sl.fields .big).dst = sl.b1.extractLsb' 4 4 := rfl

theorem fields_big_src (sl : Slot) : (sl.fields .big).src = sl.b1.extractLsb' 0 4 := rfl

/-! ### The worked example (R67) -/

/-- The instruction of the source's worked example, `r1 += 0x11223344`. -/
def workedExample : Instr := .addAlu64K 1 0x11223344

/-- The example's bytes on a little-endian host are its encoding there. -/
theorem slotsOfBytes_workedExample_little :
    slotsOfBytes [0x07, 0x01, 0x00, 0x00, 0x44, 0x33, 0x22, 0x11] = encode .little workedExample := by decide

/-- The example's bytes on a big-endian host are its encoding there. -/
theorem slotsOfBytes_workedExample_big :
    slotsOfBytes [0x07, 0x10, 0x00, 0x00, 0x11, 0x22, 0x33, 0x44] = encode .big workedExample := by decide

theorem decode_workedExample (e : Endian) : decode e (encode e workedExample) = .ok workedExample := by
  have h := decode_encode_of_fieldsDecode (FieldsDecode.addAlu64K 1 0x11223344) (by decide) e []
  rwa [List.append_nil] at h

/-- R66's canonical word does not depend on the host. -/
theorem word_workedExample (e : Endian) :
    ((encode e workedExample).map fun sl => (sl.fields e).word) = [0x1122334400000107] :=
  map_fields_encode rfl e Fields.word

/-- Settles O1: the bytes are the encodings of one instruction, which the decoder reads back on each host. -/
theorem workedEncodingExample : Obligations.WorkedEncodingExample := by
  unfold Obligations.WorkedEncodingExample
  rw [slotsOfBytes_workedExample_little, slotsOfBytes_workedExample_big]
  exact ⟨decode_workedExample .little, decode_workedExample .big, word_workedExample .little, word_workedExample .big⟩

/-- Settles O3: the nibbles are R64's on every slot, and the example's two regs bytes name the registers of its fields. -/
theorem registerNibbles : Obligations.RegisterNibbles := by
  unfold Obligations.RegisterNibbles
  rw [slotsOfBytes_workedExample_little, slotsOfBytes_workedExample_big]
  refine ⟨fun sl => ?_, ?little, ?big⟩
  · exact ⟨fields_little_src sl, fields_little_dst sl, fields_big_dst sl, fields_big_src sl⟩
  case little => exact map_fields_encode rfl .little fun f => (f.src, f.dst)
  case big => exact map_fields_encode rfl .big fun f => (f.dst, f.src)

end Sys2Proof.Laws
end

section
/-! Class ALU and the shifts (40_arithmetic.md): which encodings of NEG and MOV exist (R110), what the shifts compute
(R108), and that class ALU reads and writes low halves only (R102). -/

namespace Sys2Proof.Laws

open Sys2Proof.Machine Sys2Proof.Claims

/-! ### What an opcode byte decodes to -/

/-- What it takes for the decoder to accept an instruction. -/
theorem accept_eq_ok {zeroFields : Bool} {i j : Instr} :
    accept zeroFields i = .ok j ↔ zeroFields = true ∧ i.wf = true ∧ i = j := by
  unfold accept
  cases zeroFields <;> cases i.wf <;> simp

theorem formNeg_eq_ok {c : RegNum → Instr} {f : Fields} {i : Instr} :
    formNeg c f = .ok i ↔ (f.src = 0 ∧ f.off = 0 ∧ f.imm = 0) ∧ (c f.dst).wf = true ∧ c f.dst = i := by
  simp only [formNeg, accept_eq_ok, Bool.and_eq_true, beq_iff_eq, and_assoc]

theorem formK_eq_ok {c : RegNum → Imm → Instr} {f : Fields} {i : Instr} :
    formK c f = .ok i ↔ (f.src = 0 ∧ f.off = 0) ∧ (c f.dst f.imm).wf = true ∧ c f.dst f.imm = i := by
  simp only [formK, accept_eq_ok, Bool.and_eq_true, beq_iff_eq]

/-- The slot laid out from given fields decodes as those fields do, unless its opcode is the wide one. -/
theorem decode_slot (e : Endian) {f : Fields} (rest : List Slot) (h : f.opcode ≠ wideOpcode) :
    decode e (f.slot e :: rest) = decodeBasic f := by
  simp [decode, h]

/-! ### NEG and MOVSX (R110) -/

section
variable (e : Endian) (d r : RegNum) (off : Offset) (imm : Imm) (rest : List Slot) {op : BitVec 8}

theorem decodeBasic_neg (hop : op ∈ [(0x84 : BitVec 8), 0x87]) :
    ∃ c, decodeBasic ⟨op, d, r, off, imm⟩ = formNeg c ⟨op, d, r, off, imm⟩ := by
  simp only [List.mem_cons, List.not_mem_nil, or_false] at hop
  obtain rfl | rfl := hop
  · exact ⟨.negAlu, by simp [decodeBasic, Fields.cls, Fields.specific, decodeAlu]⟩
  · exact ⟨.negAlu64, by simp [decodeBasic, Fields.cls, Fields.specific, decodeAlu64]⟩

theorem decodeBasic_negX (hop : op ∈ [(0x8c : BitVec 8), 0x8f]) :
    decodeBasic ⟨op, d, r, off, imm⟩ = .error .unknownOpcode := by
  simp only [List.mem_cons, List.not_mem_nil, or_false] at hop
  obtain rfl | rfl := hop
  · simp [decodeBasic, Fields.cls, Fields.specific, decodeAlu]
  · simp [decodeBasic, Fields.cls, Fields.specific, decodeAlu64]

theorem decodeBasic_movK (hop : op ∈ [(0xb4 : BitVec 8), 0xb7]) :
    ∃ c, decodeBasic ⟨op, d, r, off, imm⟩ = formK c ⟨op, d, r, off, imm⟩ := by
  simp only [List.mem_cons, List.not_mem_nil, or_false] at hop
  obtain rfl | rfl := hop
  · exact ⟨.movAluK, by simp [decodeBasic, Fields.cls, Fields.specific, decodeAlu]⟩
  · exact ⟨.movAlu64K, by simp [decodeBasic, Fields.cls, Fields.specific, decodeAlu64]⟩

/-- With the unused fields zero, the two opcodes of NEG are the encodings of NEG. -/
theorem decode_neg (hd : d.toNat ≤ 10) :
    decode e ((⟨0x84, d, 0, 0, 0⟩ : Fields).slot e :: rest) = .ok (.negAlu d) ∧
      decode e ((⟨0x87, d, 0, 0, 0⟩ : Fields).slot e :: rest) = .ok (.negAlu64 d) := by
  have hwf : ([d].all isRegister) = true := by simp [isRegister, hd]
  exact ⟨decode_encode_of_fieldsDecode (FieldsDecode.negAlu d) hwf e rest,
    decode_encode_of_fieldsDecode (FieldsDecode.negAlu64 d) hwf e rest⟩

theorem decode_neg_unused (hop : op ∈ [(0x84 : BitVec 8), 0x87]) {i : Instr}
    (h : decode e ((⟨op, d, r, off, imm⟩ : Fields).slot e :: rest) = .ok i) : r = 0 ∧ off = 0 ∧ imm = 0 := by
  have hnarrow : ∀ op ∈ [(0x84 : BitVec 8), 0x87], op ≠ wideOpcode := by decide
  obtain ⟨c, hform⟩ := decodeBasic_neg d r off imm hop
  rw [decode_slot e rest (hnarrow op hop), hform, formNeg_eq_ok] at h
  exact h.1

theorem decode_negX_ne (hop : op ∈ [(0x8c : BitVec 8), 0x8f]) (i : Instr) :
    decode e ((⟨op, d, r, off, imm⟩ : Fields).slot e :: rest) ≠ .ok i := by
  have hnarrow : ∀ op ∈ [(0x8c : BitVec 8), 0x8f], op ≠ wideOpcode := by decide
  rw [decode_slot e rest (hnarrow op hop), decodeBasic_negX d r off imm hop]
  exact fun h => nomatch h

theorem decode_movK_off (hop : op ∈ [(0xb4 : BitVec 8), 0xb7]) {i : Instr}
    (h : decode e ((⟨op, d, r, off, imm⟩ : Fields).slot e :: rest) = .ok i) : off = 0 := by
  have hnarrow : ∀ op ∈ [(0xb4 : BitVec 8), 0xb7], op ≠ wideOpcode := by decide
  obtain ⟨c, hform⟩ := decodeBasic_movK d r off imm hop
  rw [decode_slot e rest (hnarrow op hop), hform, formK_eq_ok] at h
  exact h.1.2

end

/-- Settles O11: each opcode byte decodes by the one form its row has. -/
theorem negAndMovsxForms : Obligations.NegAndMovsxForms := by
  unfold Obligations.NegAndMovsxForms
  intro e d r off imm rest
  refine ⟨decode_neg e d rest, ?noX, ?unused, ?movsx⟩
  case noX => exact fun op hop i => decode_negX_ne e d r off imm rest hop i
  case unused =>
    intro hfield op hop i hi
    obtain ⟨hr, hoff, himm⟩ := decode_neg_unused e d r off imm rest hop hi
    simp [hr, hoff, himm] at hfield
  case movsx => exact fun hoff op hop i hi => hoff (decode_movK_off e d r off imm rest hop hi)

/-! ### Arithmetic instructions by their meaning -/

/-- The instruction is the class ALU operation `op` on x[d] and the source operand. -/
structure IsAlu32 (i : Instr) (op : Half → Half → Half) (d : RegNum) (src : Source) : Prop where
  exec_eq : ∀ s, exec i s = alu32 i.group op d src s
  regFields_eq : i.regFields = d :: src.regFields
  written_eq : i.written = some d
  writes_eq : i.writes = [d]

/-- The instruction is the class ALU64 operation `op` on x[d] and the source operand. -/
structure IsAlu64 (i : Instr) (op : Word → Word → Word) (d : RegNum) (src : Source) : Prop where
  exec_eq : ∀ s, exec i s = alu64 i.group op d src s
  regFields_eq : i.regFields = d :: src.regFields
  written_eq : i.written = some d

/-- The statements' static checks are the model's. -/
theorem mayRun_of_MayRun {s : State} {i : Instr} (h : MayRun s i) :
    mayRun s.cfg i.group i.regFields i.written = true := by
  obtain ⟨hgroup, hregs, hwritten⟩ := h
  refine mayRun_iff.mpr ⟨hgroup, fun r hr => ?_, fun ⟨hro, hw⟩ => hwritten hro hw⟩
  simpa [isRegister] using hregs r hr

theorem alu32_eq_next {g : Group} {op : Half → Half → Half} {d : RegNum} {src : Source} {s : State} {a : Word} {b : Half}
    (hrun : mayRun s.cfg g (d :: src.regFields) (some d) = true) (ha : Regs.get s.regs d = some a)
    (hb : src.operand32 s = .ok b) :
    alu32 g op d src s = .next ((s.setReg d (zext64 (op (low32 a) b))).advance 1) := by
  simp [alu32, (permit_ok (u := ())).mpr hrun, State.readReg_ok.mpr ha, hb]

theorem alu64_eq_next {g : Group} {op : Word → Word → Word} {d : RegNum} {src : Source} {s : State} {a b : Word}
    (hrun : mayRun s.cfg g (d :: src.regFields) (some d) = true) (ha : Regs.get s.regs d = some a)
    (hb : src.operand64 s = .ok b) : alu64 g op d src s = .next ((s.setReg d (op a b)).advance 1) := by
  simp [alu64, (permit_ok (u := ())).mpr hrun, State.readReg_ok.mpr ha, hb]

/-- Writing a register and advancing changes that register and pc, and nothing else. -/
theorem regResult_setReg_advance (s : State) {d : RegNum} (v : Word) (n : Nat) (hd : isRegister d = true) :
    RegResult s ((s.setReg d v).advance n) d v n :=
  ⟨Regs.get_set_same s.regs v hd, fun _ hq => Regs.get_set_other s.regs v hq, ⟨rfl, fun _ => rfl⟩, rfl,
    rfl, rfl, rfl, rfl, rfl⟩

theorem regNumber_toNat {s t : State} {d : RegNum} {v : Word} {n : Nat} (h : RegResult s t d v n) :
    RegNumber s t d v.toNat n := by
  refine ⟨v.isLt, ?_⟩
  rwa [BitVec.ofNat_toNat, BitVec.setWidth_eq]

theorem toNat_zext64 (v : Half) : (zext64 v).toNat = v.toNat :=
  BitVec.toNat_setWidth_of_le (by decide)

theorem toNat_low32 (v : Word) : (low32 v).toNat = low v := BitVec.toNat_setWidth 32 v

theorem wrap_eq_toNat_ofInt (N : Nat) (z : Int) : wrap N z = (BitVec.ofInt N z).toNat := by
  simp [wrap]

theorem toNat_sext64 (v : Imm) : (sext64 v).toNat = sext v := by
  rw [sext64, BitVec.signExtend, sext, wrap_eq_toNat_ofInt]

/-- A class ALU operation that may run and whose registers hold values leaves its 32-bit result in x[d]. -/
theorem IsAlu32.completes {i : Instr} {op : Half → Half → Half} {d : RegNum} {src : Source} (hi : IsAlu32 i op d src)
    {s : State} {a : Word} {b : Half} (hrun : MayRun s i) (ha : Regs.get s.regs d = some a)
    (hb : src.operand32 s = .ok b) : Completes i s fun t => RegNumber s t d (op (low32 a) b).toNat 1 := by
  have hmay := mayRun_of_MayRun hrun
  rw [hi.regFields_eq, hi.written_eq] at hmay
  have hd : isRegister d = true := (mayRun_iff.mp hmay).2.1 d List.mem_cons_self
  refine ⟨_, (hi.exec_eq s).trans (alu32_eq_next hmay ha hb), ?_⟩
  rw [← toNat_zext64]
  exact regNumber_toNat (regResult_setReg_advance s _ 1 hd)

/-- A class ALU64 operation that may run and whose registers hold values leaves its result in x[d]. -/
theorem IsAlu64.completes {i : Instr} {op : Word → Word → Word} {d : RegNum} {src : Source} (hi : IsAlu64 i op d src)
    {s : State} {a b : Word} (hrun : MayRun s i) (ha : Regs.get s.regs d = some a)
    (hb : src.operand64 s = .ok b) : Completes i s fun t => RegNumber s t d (op a b).toNat 1 := by
  have hmay := mayRun_of_MayRun hrun
  rw [hi.regFields_eq, hi.written_eq] at hmay
  have hd : isRegister d = true := (mayRun_iff.mp hmay).2.1 d List.mem_cons_self
  exact ⟨_, (hi.exec_eq s).trans (alu64_eq_next hmay ha hb), regNumber_toNat (regResult_setReg_advance s _ 1 hd)⟩

/-! ### The shifts (R108) -/

theorem signed_toNat {N : Nat} (hN : 0 < N) (a : BitVec N) : signed N a.toNat = a.toInt := by
  have hsign : a.toNat < 2 ^ (N - 1) ↔ 2 * a.toNat < 2 ^ N := by
    have hdouble : 2 ^ N = 2 * 2 ^ (N - 1) := (mul_pow_sub_one hN.ne' 2).symm
    omega
  simp [signed, BitVec.toInt_eq_toNat_cond, hsign]

theorem shiftAmount_eq_and {N : Nat} (b : BitVec N) : shiftAmount b = b.toNat &&& (N - 1) := by
  have hlt : N - 1 < 2 ^ N := lt_of_le_of_lt (Nat.sub_le N 1) Nat.lt_two_pow_self
  simp only [shiftAmount, BitVec.toNat_and, BitVec.toNat_ofNat, Nat.mod_eq_of_lt hlt]

/-- At a width that is a power of two the mask keeps the amount modulo the width. -/
theorem shiftAmount_eq_mod (k : Nat) (b : BitVec (2 ^ k)) : shiftAmount b = b.toNat % 2 ^ k := by
  rw [shiftAmount_eq_and, Nat.and_two_pow_sub_one_eq_mod]

/-- The operation shifts as `f` does on numbers, and an amount of 0 leaves the operand as it is. -/
structure ShiftsAs {N : Nat} (op : BitVec N → BitVec N → BitVec N) (f : Nat → Nat → Nat) : Prop where
  toNat_eq : ∀ a b, (op a b).toNat = f a.toNat b.toNat
  eq_of_zero : ∀ a b, shiftAmount b = 0 → op a b = a

theorem shiftsAs_lsh (N : Nat) : ShiftsAs (N := N) opLsh (lshN N) where
  toNat_eq a b := by
    rw [opLsh, BitVec.toNat_shiftLeft, Nat.shiftLeft_eq, shiftAmount_eq_and, lshN]
  eq_of_zero a b h := by rw [opLsh, h, BitVec.shiftLeft_zero]

theorem shiftsAs_rsh (N : Nat) : ShiftsAs (N := N) opRsh (rshN N) where
  toNat_eq a b := by
    rw [opRsh, BitVec.toNat_ushiftRight, Nat.shiftRight_eq_div_pow, shiftAmount_eq_and, rshN]
  eq_of_zero a b h := by rw [opRsh, h, BitVec.ushiftRight_zero]

/-- The arithmetic shift is the floor of the signed quotient by the power of two, which brings in copies of the sign. -/
theorem shiftsAs_arsh {N : Nat} (hN : 0 < N) : ShiftsAs (N := N) opArsh (arshN N) where
  toNat_eq a b := by
    have hfloor : ∀ k : Nat, a.toInt.fdiv (2 ^ k) = a.toInt >>> k := fun k => by
      rw [Int.shiftRight_eq_div_pow, Int.fdiv_eq_ediv_of_nonneg _ (by positivity)]
      norm_cast
    rw [arshN, signed_toNat hN, hfloor, wrap_eq_toNat_ofInt, ← shiftAmount_eq_and, opArsh, BitVec.sshiftRight]
  eq_of_zero a b h := by rw [opArsh, h, BitVec.sshiftRight_zero]

/-- A row of the table of shifts: the instruction completes with the result, and an amount of 0 gives the operand. -/
def ShiftRow (s : State) (d : RegNum) (p : Instr × Nat × Nat × Nat) : Prop :=
  MayRun s p.1 → Completes p.1 s (fun t => RegNumber s t d p.2.1 1) ∧ (p.2.2.2 = 0 → p.2.1 = p.2.2.1)

section
variable {i : Instr} {f : Nat → Nat → Nat} {d : RegNum} {src : Source} {s : State} {a : Word}

theorem shiftRow_alu32 {op : Half → Half → Half} (hi : IsAlu32 i op d src) (hop : ShiftsAs op f) {b : Half} {y : Nat}
    (ha : Regs.get s.regs d = some a) (hb : src.operand32 s = .ok b) (hy : b.toNat = y) :
    ShiftRow s d (i, f (low a) y, low a, y % 32) := by
  subst hy
  have hresult : (op (low32 a) b).toNat = f (low a) b.toNat := by rw [hop.toNat_eq, toNat_low32]
  refine fun hrun => ⟨?_, fun hzero => ?_⟩
  · rw [← hresult]
    exact hi.completes hrun ha hb
  · have hsame : op (low32 a) b = low32 a := hop.eq_of_zero _ b ((shiftAmount_eq_mod 5 b).trans hzero)
    rw [← hresult, hsame, toNat_low32]

theorem shiftRow_alu64 {op : Word → Word → Word} (hi : IsAlu64 i op d src) (hop : ShiftsAs op f) {b : Word} {y : Nat}
    (ha : Regs.get s.regs d = some a) (hb : src.operand64 s = .ok b) (hy : b.toNat = y) :
    ShiftRow s d (i, f a.toNat y, a.toNat, y % 64) := by
  subst hy
  refine fun hrun => ⟨?_, fun hzero => ?_⟩
  · rw [← hop.toNat_eq]
    exact hi.completes hrun ha hb
  · have hsame : op a b = a := hop.eq_of_zero a b ((shiftAmount_eq_mod 6 b).trans hzero)
    rw [← hop.toNat_eq, hsame]

end

/-- Settles O34: the six operations shift as the pseudocode does, on an immediate or a register of each class. -/
theorem shiftResults : Obligations.ShiftResults := by
  unfold Obligations.ShiftResults
  intro s d r imm a b ha hr
  have hr32 : (Source.reg r).operand32 s = .ok (low32 b) := Source.operand32_reg_ok.mpr ⟨b, hr, rfl⟩
  have hr64 : (Source.reg r).operand64 s = .ok b := Source.operand64_reg_ok.mpr hr
  have rowK {i op f} (hi : IsAlu32 i op d (.imm imm)) (hop : ShiftsAs op f) :=
    shiftRow_alu32 hi hop ha (Source.operand32_imm imm s) rfl
  have rowX {i op f} (hi : IsAlu32 i op d (.reg r)) (hop : ShiftsAs op f) :=
    shiftRow_alu32 hi hop ha hr32 (toNat_low32 b)
  have row64K {i op f} (hi : IsAlu64 i op d (.imm imm)) (hop : ShiftsAs op f) :=
    shiftRow_alu64 hi hop ha (Source.operand64_imm imm s) (toNat_sext64 imm)
  have row64X {i op f} (hi : IsAlu64 i op d (.reg r)) (hop : ShiftsAs op f) :=
    shiftRow_alu64 hi hop ha hr64 rfl
  have rows : ∀ p ∈ shifts d r imm a b, ShiftRow s d p := by
    simp only [shifts, List.forall_mem_cons]
    exact ⟨rowK ⟨fun _ => rfl, rfl, rfl, rfl⟩ (shiftsAs_lsh 32), rowX ⟨fun _ => rfl, rfl, rfl, rfl⟩ (shiftsAs_lsh 32),
      rowK ⟨fun _ => rfl, rfl, rfl, rfl⟩ (shiftsAs_rsh 32), rowX ⟨fun _ => rfl, rfl, rfl, rfl⟩ (shiftsAs_rsh 32),
      rowK ⟨fun _ => rfl, rfl, rfl, rfl⟩ (shiftsAs_arsh (by decide)),
      rowX ⟨fun _ => rfl, rfl, rfl, rfl⟩ (shiftsAs_arsh (by decide)),
      row64K ⟨fun _ => rfl, rfl, rfl⟩ (shiftsAs_lsh 64), row64X ⟨fun _ => rfl, rfl, rfl⟩ (shiftsAs_lsh 64),
      row64K ⟨fun _ => rfl, rfl, rfl⟩ (shiftsAs_rsh 64), row64X ⟨fun _ => rfl, rfl, rfl⟩ (shiftsAs_rsh 64),
      row64K ⟨fun _ => rfl, rfl, rfl⟩ (shiftsAs_arsh (by decide)),
      row64X ⟨fun _ => rfl, rfl, rfl⟩ (shiftsAs_arsh (by decide)), List.forall_mem_nil _⟩
  exact rows

/-! ### Class ALU reads and writes low halves (R102) -/

/-- Two register files whose registers hold values alike and agree in their low halves. -/
def SameLowHalves (x y : Regs) : Prop := ∀ r, (Regs.get x r).map low = (Regs.get y r).map low

/-- A 32-bit operand is read alike from register files that agree in their low halves. -/
theorem operand32_of_sameLowHalves {s : State} {x : Regs} (h : SameLowHalves s.regs x) (src : Source) :
    src.operand32 { s with regs := x } = src.operand32 s := by
  cases src with
  | imm v => rfl
  | reg r =>
    have hr := h r
    unfold Source.operand32 State.readReg
    cases hs : Regs.get s.regs r <;> cases hx : Regs.get x r <;> simp [hs, hx] at hr ⊢
    exact BitVec.eq_of_toNat_eq (by rw [toNat_low32, toNat_low32, hr])

/-- The common form of class ALU: after the static checks a 32-bit value is computed, and its zero-extension written
to x[d]. -/
def writeHalf (g : Group) (regs : List RegNum) (d : RegNum) (value : State → Except FaultInfo Half) (st : State) :
    Host.Outcome State Fault Refusal :=
  finish st do
    permit st g regs (some d)
    let v ← value st
    return (st.setReg d (zext64 v)).advance 1

/-- The instruction writes x[d] in the common form of class ALU, with a value that depends on low halves only. -/
structure WritesHalf (i : Instr) (d : RegNum) (value : State → Except FaultInfo Half) : Prop where
  exec_eq : ∀ s, exec i s = writeHalf i.group i.regFields d value s
  mem_regFields : d ∈ i.regFields
  writes_eq : i.writes = [d]
  value_eq : ∀ (s : State) (x : Regs), SameLowHalves s.regs x → value { s with regs := x } = value s

/-- The 32-bit value of a binary operation. -/
def binaryValue (op : Half → Half → Half) (d : RegNum) (src : Source) (s : State) : Except FaultInfo Half := do
  let a ← (Source.reg d).operand32 s
  let b ← src.operand32 s
  return op a b

/-- The 32-bit value of an operation on one operand. -/
def unaryValue (op : Half → Half) (src : Source) (s : State) : Except FaultInfo Half := do
  let b ← src.operand32 s
  return op b

theorem alu32_eq_writeHalf (g : Group) (op : Half → Half → Half) (d : RegNum) (src : Source) (s : State) :
    alu32 g op d src s = writeHalf g (d :: src.regFields) d (binaryValue op d src) s := by
  simp [alu32, writeHalf, binaryValue, Source.operand32, bind_assoc]

theorem move32_eq_writeHalf (g : Group) (op : Half → Half) (d : RegNum) (src : Source) (s : State) :
    move32 g op d src s = writeHalf g (d :: src.regFields) d (unaryValue op src) s := by
  simp [move32, writeHalf, unaryValue, bind_assoc]

theorem unary_eq_writeHalf (g : Group) (op : Half → Half) (d : RegNum) (s : State) :
    unary g (fun a => zext64 (op (low32 a))) d s = writeHalf g [d] d (unaryValue op (.reg d)) s := by
  simp [unary, writeHalf, unaryValue, Source.operand32, bind_assoc]

theorem binaryValue_of_sameLowHalves {s : State} {x : Regs} (h : SameLowHalves s.regs x) (op : Half → Half → Half)
    (d : RegNum) (src : Source) : binaryValue op d src { s with regs := x } = binaryValue op d src s := by
  simp only [binaryValue, operand32_of_sameLowHalves h]

theorem unaryValue_of_sameLowHalves {s : State} {x : Regs} (h : SameLowHalves s.regs x) (op : Half → Half)
    (src : Source) : unaryValue op src { s with regs := x } = unaryValue op src s := by
  simp only [unaryValue, operand32_of_sameLowHalves h]

theorem IsAlu32.writesHalf {i : Instr} {op : Half → Half → Half} {d : RegNum} {src : Source} (hi : IsAlu32 i op d src) :
    WritesHalf i d (binaryValue op d src) where
  exec_eq s := by rw [hi.exec_eq, hi.regFields_eq, alu32_eq_writeHalf]
  mem_regFields := by rw [hi.regFields_eq]; exact List.mem_cons_self
  writes_eq := hi.writes_eq
  value_eq _ _ h := binaryValue_of_sameLowHalves h op d src

theorem writesHalf_of_move32 {i : Instr} {op : Half → Half} {d : RegNum} {src : Source}
    (hexec : ∀ s, exec i s = move32 i.group op d src s) (hregs : i.regFields = d :: src.regFields)
    (hwrites : i.writes = [d]) : WritesHalf i d (unaryValue op src) where
  exec_eq s := by rw [hexec, hregs, move32_eq_writeHalf]
  mem_regFields := by rw [hregs]; exact List.mem_cons_self
  writes_eq := hwrites
  value_eq _ _ h := unaryValue_of_sameLowHalves h op src

theorem writesHalf_negAlu (d : RegNum) : WritesHalf (.negAlu d) d (unaryValue opNeg (.reg d)) where
  exec_eq := unary_eq_writeHalf .base32 opNeg d
  mem_regFields := List.mem_cons_self
  writes_eq := rfl
  value_eq _ _ h := unaryValue_of_sameLowHalves h opNeg (.reg d)

/-- Every instruction of class ALU but the byte swaps has the common form. -/
theorem exists_writesHalf (i : Instr) (hclass : i.fields.opcode.extractLsb' 0 3 = 4)
    (hcode : i.fields.opcode.extractLsb' 4 4 ≠ 0xd) : ∃ d value, WritesHalf i d value := by
  cases i with
  | addAluK d imm | subAluK d imm | mulAluK d imm | divAluK d imm | sdivAluK d imm | modAluK d imm | smodAluK d imm
  | orAluK d imm | andAluK d imm | xorAluK d imm | lshAluK d imm | rshAluK d imm | arshAluK d imm =>
    exact ⟨d, _, IsAlu32.writesHalf (src := .imm imm) ⟨fun _ => rfl, rfl, rfl, rfl⟩⟩
  | addAluX d r | subAluX d r | mulAluX d r | divAluX d r | sdivAluX d r | modAluX d r | smodAluX d r
  | orAluX d r | andAluX d r | xorAluX d r | lshAluX d r | rshAluX d r | arshAluX d r =>
    exact ⟨d, _, IsAlu32.writesHalf (src := .reg r) ⟨fun _ => rfl, rfl, rfl, rfl⟩⟩
  | movAluK d imm => exact ⟨d, _, writesHalf_of_move32 (src := .imm imm) (fun _ => rfl) rfl rfl⟩
  | movAluX d r | movsx8AluX d r | movsx16AluX d r =>
    exact ⟨d, _, writesHalf_of_move32 (src := .reg r) (fun _ => rfl) rfl rfl⟩
  | negAlu d => exact ⟨d, _, writesHalf_negAlu d⟩
  | _ => simp [Instr.fields] at hclass hcode

/-- What the common form answers: a fault, or x[d] with a zero upper half; whether and which is decided before any
register is written. -/
theorem writeHalf_cases (g : Group) (regs : List RegNum) (d : RegNum) (value : State → Except FaultInfo Half)
    {s : State} {x : Regs} (hvalue : value { s with regs := x } = value s) :
    (∃ f, writeHalf g regs d value s = .next (raise f s) ∧
      writeHalf g regs d value { s with regs := x } = .next (raise f { s with regs := x })) ∨
    ∃ v, mayRun s.cfg g regs (some d) = true ∧
      writeHalf g regs d value s = .next ((s.setReg d (zext64 v)).advance 1) ∧
      writeHalf g regs d value { s with regs := x } =
        .next ((State.setReg { s with regs := x } d (zext64 v)).advance 1) := by
  unfold writeHalf
  have hpermit : permit { s with regs := x } g regs (some d) = permit s g regs (some d) := rfl
  rw [hvalue, hpermit]
  cases hp : permit s g regs (some d) with
  | error f => exact .inl ⟨f, rfl, rfl⟩
  | ok _ =>
    cases value s with
    | error f => exact .inl ⟨f, rfl, rfl⟩
    | ok v => exact .inr ⟨v, permit_ok.mp hp, rfl, rfl⟩

/-- Settles O41: the instruction has class ALU's common form, whose two runs raise the same fault or write the same
zero-extended half. -/
theorem upperHalvesIgnored : Obligations.UpperHalvesIgnored := by
  unfold Obligations.UpperHalvesIgnored
  intro s x i hrunning hclass hcode hlow
  obtain ⟨d, value, hi⟩ := exists_writesHalf i hclass hcode
  rw [hi.exec_eq, hi.exec_eq, hi.writes_eq]
  obtain ⟨f, hs, hx⟩ | ⟨v, hmay, hs, hx⟩ := writeHalf_cases i.group i.regFields d value (hi.value_eq s x hlow)
  · exact ⟨_, _, hs, hx, rfl, rfl, rfl, fun hrun => RunStatus.noConfusion hrun⟩
  · have hd : isRegister d = true := (mayRun_iff.mp hmay).2.1 d hi.mem_regFields
    have hread (y : Regs) : Regs.get (Regs.set y d (zext64 v)) d = some (zext64 v) := Regs.get_set_same y _ hd
    refine ⟨_, _, hs, hx, rfl, rfl, rfl, fun _ => ⟨List.cons_ne_nil d [], fun r hr => ?_⟩⟩
    obtain rfl := List.mem_singleton.mp hr
    refine ⟨(hread s.regs).trans (hread x).symm, zext64 v, hread s.regs, ?_⟩
    rw [toNat_zext64]
    exact v.isLt

end Sys2Proof.Laws
end

section
/-! The byte swaps (42_byteswap.md): the imm field of opcodes 0xd4, 0xdc and 0xd7 is the width and decides the group
(R182). -/

namespace Sys2Proof.Laws

open Sys2Proof.Machine Sys2Proof.Claims

/-- The opcode byte `p.1` and width `p.2.1` encode the byte swap `p.2.2` of x[d], whose group is R182's for the
width. -/
structure EncodesSwap (d : RegNum) (p : BitVec 8 × Imm × Instr) : Prop where
  fieldsDecode : FieldsDecode.Statement p.2.2
  fields_eq : p.2.2.fields = ⟨p.1, d, 0, 0, p.2.1⟩
  secondImm_eq : p.2.2.secondImm = none
  regFields_eq : p.2.2.regFields = [d]
  group_eq : p.2.2.group = if p.2.1 = 64 then .base64 else .base32

theorem encodesSwap_of_mem_swapSelectors {d : RegNum} {p : BitVec 8 × Imm × Instr} (hp : p ∈ swapSelectors d) :
    EncodesSwap d p := by
  simp only [swapSelectors, List.mem_cons, List.not_mem_nil, or_false] at hp
  obtain rfl | rfl | rfl | rfl | rfl | rfl | rfl | rfl | rfl := hp
  · exact ⟨FieldsDecode.endToLe16 d, rfl, rfl, rfl, rfl⟩
  · exact ⟨FieldsDecode.endToLe32 d, rfl, rfl, rfl, rfl⟩
  · exact ⟨FieldsDecode.endToLe64 d, rfl, rfl, rfl, rfl⟩
  · exact ⟨FieldsDecode.endToBe16 d, rfl, rfl, rfl, rfl⟩
  · exact ⟨FieldsDecode.endToBe32 d, rfl, rfl, rfl, rfl⟩
  · exact ⟨FieldsDecode.endToBe64 d, rfl, rfl, rfl, rfl⟩
  · exact ⟨FieldsDecode.bswap16 d, rfl, rfl, rfl, rfl⟩
  · exact ⟨FieldsDecode.bswap32 d, rfl, rfl, rfl, rfl⟩
  · exact ⟨FieldsDecode.bswap64 d, rfl, rfl, rfl, rfl⟩

/-- A byte swap of a register is read back from its one slot. -/
theorem EncodesSwap.decode_eq {d : RegNum} {p : BitVec 8 × Imm × Instr} (h : EncodesSwap d p) (hd : d.toNat ≤ 10)
    (e : Endian) (rest : List Slot) :
    decode e ((⟨p.1, d, 0, 0, p.2.1⟩ : Fields).slot e :: rest) = .ok p.2.2 := by
  have hwf : p.2.2.wf = true := by simp [Instr.wf, h.regFields_eq, isRegister, hd]
  have hdecode := decode_encode_of_fieldsDecode h.fieldsDecode hwf e rest
  simpa [encode, h.secondImm_eq, h.fields_eq] using hdecode

/-- Code END accepts three widths (R182). -/
theorem formEnd_ok_imm {c16 c32 c64 : RegNum → Instr} {f : Fields} {i : Instr} (h : formEnd c16 c32 c64 f = .ok i) :
    f.imm = 16 ∨ f.imm = 32 ∨ f.imm = 64 := by
  by_contra! hwidth
  obtain ⟨h16, h32, h64⟩ := hwidth
  rw [formEnd, if_neg h16, if_neg h32, if_neg h64] at h
  exact nomatch h

section
variable (d r : RegNum) (off : Offset) (imm : Imm) {op : BitVec 8}

theorem decodeBasic_end (hop : op ∈ [(0xd4 : BitVec 8), 0xdc, 0xd7]) :
    ∃ c16 c32 c64, decodeBasic ⟨op, d, r, off, imm⟩ = formEnd c16 c32 c64 ⟨op, d, r, off, imm⟩ := by
  simp only [List.mem_cons, List.not_mem_nil, or_false] at hop
  obtain rfl | rfl | rfl := hop
  · exact ⟨.endToLe16, .endToLe32, .endToLe64, by simp [decodeBasic, Fields.cls, Fields.specific, decodeAlu]⟩
  · exact ⟨.endToBe16, .endToBe32, .endToBe64, by simp [decodeBasic, Fields.cls, Fields.specific, decodeAlu]⟩
  · exact ⟨.bswap16, .bswap32, .bswap64, by simp [decodeBasic, Fields.cls, Fields.specific, decodeAlu64]⟩

/-- Whatever the other fields hold, an END opcode decodes with one of the three widths in imm. -/
theorem decode_end_imm (e : Endian) (rest : List Slot) (hop : op ∈ [(0xd4 : BitVec 8), 0xdc, 0xd7]) {i : Instr}
    (h : decode e ((⟨op, d, r, off, imm⟩ : Fields).slot e :: rest) = .ok i) : imm = 16 ∨ imm = 32 ∨ imm = 64 := by
  have hnarrow : ∀ op ∈ [(0xd4 : BitVec 8), 0xdc, 0xd7], op ≠ wideOpcode := by decide
  obtain ⟨c16, c32, c64, hform⟩ := decodeBasic_end d r off imm hop
  rw [decode_slot e rest (hnarrow op hop), hform] at h
  exact formEnd_ok_imm h

end

/-- Settles O10: each selector is the encoding of its byte swap, and an END opcode decodes with no fourth width. -/
theorem swapWidths : Obligations.SwapWidths := by
  unfold Obligations.SwapWidths
  intro e d imm rest hd
  refine ⟨fun p hp => ?width, fun h16 h32 h64 op hop r off i hi => ?otherImm⟩
  case width =>
    have hswap := encodesSwap_of_mem_swapSelectors hp
    exact ⟨hswap.decode_eq hd e rest, hswap.group_eq⟩
  case otherImm =>
    obtain himm | himm | himm := decode_end_imm d r off imm e rest hop hi
    · exact h16 himm
    · exact h32 himm
    · exact h64 himm

end Sys2Proof.Laws
end

section
/-! The loads (45_load_store.md): a load whose access is allowed leaves the extended value of memory in x[d] (R272). -/

namespace Sys2Proof.Laws

open Sys2Proof.Machine Sys2Proof.Claims

/-! ### Accesses that raise no fault -/

theorem grants_iff {rg : Region} {k : AccessKind} :
    Region.grants rg k = true ↔ (k ≠ .store → rg.readable = true) ∧ (k ≠ .load → rg.writable = true) := by
  cases k <;> simp [Region.grants]

/-- The statements' regions are the model's. -/
theorem inRegion_iff {s : State} {k : AccessKind} {a n : Nat} :
    InRegion s k a n ↔ a + n ≤ 2 ^ 64 ∧ allowed s.cfg.regions k a n = true := by
  simp only [InRegion, allowed, Region.covers, List.any_eq_true, Bool.and_eq_true, decide_eq_true_eq, grants_iff,
    and_assoc]

/-- An access that is allowed and aligned passes the model's checks. -/
theorem accessCheck_of_accessOk {s : State} {k : AccessKind} {ea : Word} {n : Nat} (h : AccessOk s k ea.toNat n) :
    accessCheck s.cfg k ea n = .ok () := by
  obtain ⟨hregion, haligned⟩ := h
  refine accessCheck_ok.mpr ⟨inRegion_iff.mp hregion, fun ⟨_, hoff, hmust⟩ => ?_⟩
  obtain haligned | ⟨hlax, hkind⟩ := haligned
  · exact hoff haligned
  · obtain hstrict | hatomic := hmust
    · exact Bool.false_ne_true (hlax.symm.trans hstrict)
    · exact hkind hatomic

/-! ### What memory holds -/

/-- Byte k of a datum, the least significant first, lies at its host position (R43). -/
theorem hostOrder_readBytes_getElem (m : Memory) (e : Endian) (a : Nat) {n k : Nat} (h : k < n) :
    (hostOrder e (m.readBytes a n))[k]'(by simpa using h) = m.read (a + hostByte e n k) := by
  cases e with
  | little => exact Memory.readBytes_getElem m a h
  | big =>
    have hlt : n - 1 - k < n := by omega
    simp only [hostOrder, hostByte, List.getElem_reverse, Memory.readBytes_length, Memory.readBytes_getElem m a hlt]

theorem toBytes_readValue (m : Memory) (e : Endian) (a : Nat) {n : Nat} (hn : n ≤ 8) :
    toBytes n (m.readValue e a n) = hostOrder e (m.readBytes a n) := by
  have h := toBytes_ofBytes (hostOrder e (m.readBytes a n)) (by simpa using hn)
  rwa [hostOrder_length, Memory.readBytes_length] at h

theorem toNat_readValue_lt (m : Memory) (e : Endian) (a n : Nat) : (m.readValue e a n).toNat < 2 ^ (8 * n) := by
  rw [← Memory.lowBytes_readValue, lowBytes, BitVec.toNat_setWidth]
  exact lt_of_le_of_lt (Nat.mod_le _ _) (BitVec.isLt _)

/-- The value memory answers is the one it holds, in the sense of the statements. -/
theorem memHolds_readValue (s : State) (a : Nat) {n : Nat} (hn : n ≤ 8) :
    MemHolds s a n (s.mem.readValue s.cfg.endian a n) := by
  refine ⟨toNat_readValue_lt _ _ _ _, fun k hk => ?_⟩
  have hbyte := toBytes_getElem (s.mem.readValue s.cfg.endian a n) hk
  simp only [toBytes_readValue _ _ _ hn] at hbyte
  exact (hostOrder_readBytes_getElem _ _ _ hk).symm.trans hbyte

/-! ### The loads (R272) -/

/-- How a load extends its `n` bytes: MEMSX copies their sign, MEM leaves zeros above them. -/
def loadExtension (signExtends : Bool) (n : Nat) : Word → Word := if signExtends then signExtendBytes n else fun v => v

theorem toNat_signExtendBytes {n : Nat} (hn : 0 < n) (v : Word) :
    (signExtendBytes n v).toNat = sextFrom (8 * n) 64 v.toNat := by
  rw [signExtendBytes, BitVec.signExtend, sextFrom, wrap_eq_toNat_ofInt, ← signed_toNat (by omega),
    BitVec.toNat_setWidth]

theorem toNat_loadExtension (signExtends : Bool) {n : Nat} (hn : 0 < n) (v : Word) :
    (loadExtension signExtends n v).toNat = if signExtends then sextFrom (8 * n) 64 v.toNat else v.toNat := by
  cases signExtends with
  | false => rfl
  | true => exact toNat_signExtendBytes hn v

theorem loadMem_eq_next {g : Group} {n : Nat} {ext : Word → Word} {d r : RegNum} {off : Offset} {s : State}
    {base : Word} (hrun : mayRun s.cfg g [d, r] (some d) = true) (hbase : Regs.get s.regs r = some base)
    (haccess : accessCheck s.cfg .load (effAddr base off) n = .ok ()) :
    loadMem g n ext d r off s =
      .next ((s.setReg d (ext (s.mem.readValue s.cfg.endian (effAddr base off).toNat n))).advance 1) := by
  simp [loadMem, (permit_ok (u := ())).mpr hrun, State.readReg_ok.mpr hbase, State.memRead_ok.mpr ⟨haccess, rfl⟩]

/-- The instruction `p.1` loads the `p.2.1` bytes at x[r] + off into x[d], sign-extended if `p.2.2`. -/
structure IsLoad (d r : RegNum) (off : Offset) (p : Instr × Nat × Bool) : Prop where
  exec_eq : ∀ s, exec p.1 s = loadMem p.1.group p.2.1 (loadExtension p.2.2 p.2.1) d r off s
  regFields_eq : p.1.regFields = [d, r]
  written_eq : p.1.written = some d
  size_pos : 0 < p.2.1
  size_le : p.2.1 ≤ 8

theorem isLoad_of_mem_loads {d r : RegNum} {off : Offset} {p : Instr × Nat × Bool} (hp : p ∈ loads d r off) :
    IsLoad d r off p := by
  simp only [loads, List.mem_cons, List.not_mem_nil, or_false] at hp
  obtain rfl | rfl | rfl | rfl | rfl | rfl | rfl := hp <;>
    exact ⟨fun _ => rfl, rfl, rfl, by simp, by simp⟩

/-- A load that may run and whose access raises no fault leaves in x[d] the extension of the value memory answers. -/
theorem IsLoad.completes {d r : RegNum} {off : Offset} {p : Instr × Nat × Bool} (hp : IsLoad d r off p) {s : State}
    {base : Word} (hrun : MayRun s p.1) (hbase : Regs.get s.regs r = some base)
    (haccess : AccessOk s .load (effAddr base off).toNat p.2.1) :
    Completes p.1 s fun t => RegNumber s t d
      (loadExtension p.2.2 p.2.1 (s.mem.readValue s.cfg.endian (effAddr base off).toNat p.2.1)).toNat 1 := by
  have hmay := mayRun_of_MayRun hrun
  rw [hp.regFields_eq, hp.written_eq] at hmay
  have hd : isRegister d = true := (mayRun_iff.mp hmay).2.1 d List.mem_cons_self
  have hnext := loadMem_eq_next (ext := loadExtension p.2.2 p.2.1) hmay hbase (accessCheck_of_accessOk haccess)
  exact ⟨_, (hp.exec_eq s).trans hnext, regNumber_toNat (regResult_setReg_advance s _ 1 hd)⟩

/-- Settles O50: the value is the one memory answers at the effective address, which is what memory holds there. -/
theorem loadResults : Obligations.LoadResults := by
  unfold Obligations.LoadResults
  intro s d r off base hbase p hp hrun haccess
  have hload := isLoad_of_mem_loads hp
  obtain ⟨t, hexec, hresult⟩ := hload.completes hrun hbase haccess
  rw [toNat_loadExtension _ hload.size_pos] at hresult
  exact ⟨t, hexec, _, memHolds_readValue s _ hload.size_le, hresult⟩

end Sys2Proof.Laws
end

section
/-! The selectors of the atomics (46_atomic.md): the whole imm of opcodes 0xc3 and 0xdb is one of ten values (R301). -/

namespace Sys2Proof.Laws

open Sys2Proof.Claims

section
variable {d r : RegNum} {off : Offset}

/-! ### Each selector encodes its operation -/

/-- Opcode byte `op` and selector `imm` encode the atomic `i` of x[r] on the memory at x[d] + off. -/
structure EncodesAtomic (d r : RegNum) (off : Offset) (op : BitVec 8) (imm : Imm) (i : Instr) : Prop where
  fieldsDecode : FieldsDecode.Statement i
  fields_eq : i.fields = ⟨op, d, r, off, imm⟩
  secondImm_eq : i.secondImm = none
  regFields_eq : i.regFields = [d, r]

/-- An atomic whose register fields name registers is read back from its one slot. -/
theorem EncodesAtomic.decode_eq {op : BitVec 8} {imm : Imm} {i : Instr} (h : EncodesAtomic d r off op imm i)
    (hd : d.toNat ≤ 10) (hr : r.toNat ≤ 10) (e : Endian) (rest : List Slot) :
    decode e ((⟨op, d, r, off, imm⟩ : Fields).slot e :: rest) = .ok i := by
  have hwf : i.wf = true := by simp [Instr.wf, h.regFields_eq, isRegister, hd, hr]
  have hdecode := decode_encode_of_fieldsDecode h.fieldsDecode hwf e rest
  simpa [encode, h.secondImm_eq, h.fields_eq] using hdecode

/-- R301's table: a selector has the same value under both opcodes, which give the operation its size. -/
theorem encodesAtomic_of_mem_atomicSelectors {p : Imm × Instr × Instr} (hp : p ∈ atomicSelectors d r off) :
    EncodesAtomic d r off 0xc3 p.1 p.2.1 ∧ EncodesAtomic d r off 0xdb p.1 p.2.2 := by
  simp only [atomicSelectors, List.mem_cons, List.not_mem_nil, or_false] at hp
  obtain rfl | rfl | rfl | rfl | rfl | rfl | rfl | rfl | rfl | rfl := hp
  · exact ⟨⟨FieldsDecode.atomicAddW d r off, rfl, rfl, rfl⟩, ⟨FieldsDecode.atomicAddDw d r off, rfl, rfl, rfl⟩⟩
  · exact ⟨⟨FieldsDecode.atomicFetchAddW d r off, rfl, rfl, rfl⟩, ⟨FieldsDecode.atomicFetchAddDw d r off, rfl, rfl, rfl⟩⟩
  · exact ⟨⟨FieldsDecode.atomicOrW d r off, rfl, rfl, rfl⟩, ⟨FieldsDecode.atomicOrDw d r off, rfl, rfl, rfl⟩⟩
  · exact ⟨⟨FieldsDecode.atomicFetchOrW d r off, rfl, rfl, rfl⟩, ⟨FieldsDecode.atomicFetchOrDw d r off, rfl, rfl, rfl⟩⟩
  · exact ⟨⟨FieldsDecode.atomicAndW d r off, rfl, rfl, rfl⟩, ⟨FieldsDecode.atomicAndDw d r off, rfl, rfl, rfl⟩⟩
  · exact ⟨⟨FieldsDecode.atomicFetchAndW d r off, rfl, rfl, rfl⟩, ⟨FieldsDecode.atomicFetchAndDw d r off, rfl, rfl, rfl⟩⟩
  · exact ⟨⟨FieldsDecode.atomicXorW d r off, rfl, rfl, rfl⟩, ⟨FieldsDecode.atomicXorDw d r off, rfl, rfl, rfl⟩⟩
  · exact ⟨⟨FieldsDecode.atomicFetchXorW d r off, rfl, rfl, rfl⟩, ⟨FieldsDecode.atomicFetchXorDw d r off, rfl, rfl, rfl⟩⟩
  · exact ⟨⟨FieldsDecode.atomicXchgW d r off, rfl, rfl, rfl⟩, ⟨FieldsDecode.atomicXchgDw d r off, rfl, rfl, rfl⟩⟩
  · exact ⟨⟨FieldsDecode.atomicCmpxchgW d r off, rfl, rfl, rfl⟩, ⟨FieldsDecode.atomicCmpxchgDw d r off, rfl, rfl, rfl⟩⟩

/-! ### No other imm selects an operation -/

/-- The form of the atomics accepts no imm outside R301's table, whichever operations it selects between. -/
theorem formAtomic_ok_imm
    {add fetchAdd or fetchOr and fetchAnd xor fetchXor xchg cmpxchg : RegNum → RegNum → Offset → Instr}
    {f : Fields} {i : Instr}
    (h : formAtomic add fetchAdd or fetchOr and fetchAnd xor fetchXor xchg cmpxchg f = .ok i) :
    f.imm ∈ (atomicSelectors f.dst f.src f.off).map Prod.fst := by
  by_contra himm
  simp only [atomicSelectors, List.map_cons, List.map_nil, List.mem_cons, List.not_mem_nil, or_false, not_or] at himm
  obtain ⟨h00, h01, h40, h41, h50, h51, ha0, ha1, he1, hf1⟩ := himm
  rw [formAtomic, if_neg h00, if_neg h01, if_neg h40, if_neg h41, if_neg h50, if_neg h51, if_neg ha0, if_neg ha1,
    if_neg he1, if_neg hf1] at h
  exact nomatch h

/-- Both opcodes of the atomics decode by the form of the atomics, so with one of the ten selectors in imm. -/
theorem decodeBasic_atomic_imm {op : BitVec 8} {imm : Imm} {i : Instr} (hop : op ∈ [(0xc3 : BitVec 8), 0xdb])
    (h : decodeBasic ⟨op, d, r, off, imm⟩ = .ok i) : imm ∈ (atomicSelectors d r off).map Prod.fst := by
  simp only [List.mem_cons, List.not_mem_nil, or_false] at hop
  obtain rfl | rfl := hop
  · simp only [decodeBasic, Fields.cls, Fields.specific, decodeStx] at h
    exact formAtomic_ok_imm h
  · simp only [decodeBasic, Fields.cls, Fields.specific, decodeStx] at h
    exact formAtomic_ok_imm h

/-- Whatever the other fields hold, an opcode of the atomics decodes only with one of the ten selectors in imm. -/
theorem decode_atomic_imm {e : Endian} {op : BitVec 8} {imm : Imm} {rest : List Slot} {i : Instr}
    (hop : op ∈ [(0xc3 : BitVec 8), 0xdb])
    (h : decode e ((⟨op, d, r, off, imm⟩ : Fields).slot e :: rest) = .ok i) :
    imm ∈ (atomicSelectors d r off).map Prod.fst := by
  have hnarrow : ∀ op ∈ [(0xc3 : BitVec 8), 0xdb], op ≠ wideOpcode := by decide
  rw [decode_slot e rest (hnarrow op hop)] at h
  exact decodeBasic_atomic_imm hop h

end

/-- Settles O9: each selector encodes its operation under both opcodes, and either opcode decodes with no eleventh
value. -/
theorem atomicSelectors : Obligations.AtomicSelectors := by
  unfold Obligations.AtomicSelectors
  intro e d r off imm rest hd hr
  refine ⟨fun p hp => ?selector, fun himm i => ⟨fun hi => ?otherW, fun hi => ?otherDw⟩⟩
  case selector =>
    obtain ⟨hw, hdw⟩ := encodesAtomic_of_mem_atomicSelectors hp
    exact ⟨hw.decode_eq hd hr e rest, hdw.decode_eq hd hr e rest⟩
  case otherW => exact himm (decode_atomic_imm (by decide) hi)
  case otherDw => exact himm (decode_atomic_imm (by decide) hi)

end Sys2Proof.Laws
end

section
/-! No arithmetic condition raises a fault (60_exceptions.md R414): past the static checks, an instruction of class ALU
or ALU64 can only fail to read a register. -/

namespace Sys2Proof.Laws

open Sys2Proof.Machine Sys2Proof.Claims

/-- Every register of the list holds a value. -/
def HoldValues (s : State) (regs : List RegNum) : Prop := ∀ r ∈ regs, Regs.get s.regs r ≠ none

section
variable {s : State} {g : Group} {d : RegNum} {src : Source}

theorem holdValues_cons {r : RegNum} {regs : List RegNum} :
    HoldValues s (r :: regs) ↔ (∃ v, Regs.get s.regs r = some v) ∧ HoldValues s regs := by
  simp only [HoldValues, List.forall_mem_cons, Option.ne_none_iff_exists']

/-! ### Operands whose registers hold values -/

theorem exists_operand64 (h : HoldValues s src.regFields) : ∃ b, src.operand64 s = .ok b := by
  cases src with
  | imm v => exact ⟨_, Source.operand64_imm v s⟩
  | reg r =>
    obtain ⟨⟨b, hb⟩, -⟩ := holdValues_cons.mp h
    exact ⟨b, Source.operand64_reg_ok.mpr hb⟩

theorem exists_operand32 (h : HoldValues s src.regFields) : ∃ b, src.operand32 s = .ok b := by
  cases src with
  | imm v => exact ⟨v, Source.operand32_imm v s⟩
  | reg r =>
    obtain ⟨⟨b, hb⟩, -⟩ := holdValues_cons.mp h
    exact ⟨low32 b, Source.operand32_reg_ok.mpr ⟨b, hb, rfl⟩⟩

/-! ### The five forms of an arithmetic instruction, for every operation -/

theorem exists_alu32_eq_next {op : Half → Half → Half} (hrun : mayRun s.cfg g (d :: src.regFields) (some d) = true)
    (hvals : HoldValues s (d :: src.regFields)) : ∃ v, alu32 g op d src s = .next ((s.setReg d v).advance 1) := by
  obtain ⟨⟨a, ha⟩, hsrc⟩ := holdValues_cons.mp hvals
  obtain ⟨b, hb⟩ := exists_operand32 hsrc
  exact ⟨_, alu32_eq_next hrun ha hb⟩

theorem exists_alu64_eq_next {op : Word → Word → Word} (hrun : mayRun s.cfg g (d :: src.regFields) (some d) = true)
    (hvals : HoldValues s (d :: src.regFields)) : ∃ v, alu64 g op d src s = .next ((s.setReg d v).advance 1) := by
  obtain ⟨⟨a, ha⟩, hsrc⟩ := holdValues_cons.mp hvals
  obtain ⟨b, hb⟩ := exists_operand64 hsrc
  exact ⟨_, alu64_eq_next hrun ha hb⟩

/-- A move reads its source alone: x[d] need hold no value. -/
theorem exists_move32_eq_next {op : Half → Half} (hrun : mayRun s.cfg g (d :: src.regFields) (some d) = true)
    (hvals : HoldValues s src.regFields) : ∃ v, move32 g op d src s = .next ((s.setReg d v).advance 1) := by
  obtain ⟨b, hb⟩ := exists_operand32 hvals
  exact ⟨zext64 (op b), by simp [move32, (permit_ok (u := ())).mpr hrun, hb]⟩

theorem exists_move64_eq_next {op : Word → Word} (hrun : mayRun s.cfg g (d :: src.regFields) (some d) = true)
    (hvals : HoldValues s src.regFields) : ∃ v, move64 g op d src s = .next ((s.setReg d v).advance 1) := by
  obtain ⟨b, hb⟩ := exists_operand64 hvals
  exact ⟨op b, by simp [move64, (permit_ok (u := ())).mpr hrun, hb]⟩

theorem exists_unary_eq_next {op : Word → Word} (hrun : mayRun s.cfg g [d] (some d) = true)
    (hvals : HoldValues s [d]) : ∃ v, unary g op d s = .next ((s.setReg d v).advance 1) := by
  obtain ⟨⟨a, ha⟩, -⟩ := holdValues_cons.mp hvals
  exact ⟨op a, by simp [unary, (permit_ok (u := ())).mpr hrun, State.readReg_ok.mpr ha]⟩

end

/-- An instruction of class ALU or ALU64 that passes the static checks and reads only registers that hold values
writes its dst register and advances: each has one of the five forms, none of which asks anything of the operands. -/
theorem exec_arithmetic_eq_next {s : State} (i : Instr)
    (hclass : i.fields.opcode.extractLsb' 0 3 = 4 ∨ i.fields.opcode.extractLsb' 0 3 = 7) (hrun : MayRun s i)
    (hvals : HoldValues s i.reads) : ∃ v, exec i s = .next ((s.setReg i.fields.dst v).advance 1) := by
  have hmay := mayRun_of_MayRun hrun
  cases i with
  | addAluK d imm | subAluK d imm | mulAluK d imm | divAluK d imm | sdivAluK d imm | modAluK d imm | smodAluK d imm
  | orAluK d imm | andAluK d imm | xorAluK d imm | lshAluK d imm | rshAluK d imm | arshAluK d imm =>
    exact exists_alu32_eq_next (src := .imm imm) hmay hvals
  | addAluX d r | subAluX d r | mulAluX d r | divAluX d r | sdivAluX d r | modAluX d r | smodAluX d r
  | orAluX d r | andAluX d r | xorAluX d r | lshAluX d r | rshAluX d r | arshAluX d r =>
    exact exists_alu32_eq_next (src := .reg r) hmay hvals
  | addAlu64K d imm | subAlu64K d imm | mulAlu64K d imm | divAlu64K d imm | sdivAlu64K d imm | modAlu64K d imm
  | smodAlu64K d imm | orAlu64K d imm | andAlu64K d imm | xorAlu64K d imm | lshAlu64K d imm | rshAlu64K d imm
  | arshAlu64K d imm =>
    exact exists_alu64_eq_next (src := .imm imm) hmay hvals
  | addAlu64X d r | subAlu64X d r | mulAlu64X d r | divAlu64X d r | sdivAlu64X d r | modAlu64X d r
  | smodAlu64X d r | orAlu64X d r | andAlu64X d r | xorAlu64X d r | lshAlu64X d r | rshAlu64X d r | arshAlu64X d r =>
    exact exists_alu64_eq_next (src := .reg r) hmay hvals
  | movAluK d imm => exact exists_move32_eq_next (src := .imm imm) hmay hvals
  | movAluX d r | movsx8AluX d r | movsx16AluX d r => exact exists_move32_eq_next (src := .reg r) hmay hvals
  | movAlu64K d imm => exact exists_move64_eq_next (src := .imm imm) hmay hvals
  | movAlu64X d r | movsx8Alu64X d r | movsx16Alu64X d r | movsx32Alu64X d r =>
    exact exists_move64_eq_next (src := .reg r) hmay hvals
  | negAlu d | negAlu64 d | endToLe16 d | endToLe32 d | endToLe64 d | endToBe16 d | endToBe32 d | endToBe64 d
  | bswap16 d | bswap32 d | bswap64 d =>
    exact exists_unary_eq_next hmay hvals
  | _ => simp [Instr.fields] at hclass

/-- Settles O38: the next state is the one with dst written and pc advanced, so its status is as before. -/
theorem noArithmeticFault : Obligations.NoArithmeticFault := by
  unfold Obligations.NoArithmeticFault
  intro s i hclass hrun hvals
  obtain ⟨v, hexec⟩ := exec_arithmetic_eq_next i hclass hrun hvals
  exact ⟨_, hexec, rfl, rfl⟩

end Sys2Proof.Laws
end

section
/-! Decoding and encoding are inverse to each other (30_encoding.md sections 1, 2, 6), and what decodes matches its row of
the opcode table. -/

namespace Sys2Proof.Laws

open Sys2Proof.Claims

/-! ### Every instruction is read back from its fields -/

/-- The decoder reads every instruction back from the fields of its row: one lemma per constructor, collected. -/
theorem fieldsDecode : ∀ i : Instr, FieldsDecode.Statement i
  | .addAluK d imm => FieldsDecode.addAluK d imm
  | .addAluX d s => FieldsDecode.addAluX d s
  | .addAlu64K d imm => FieldsDecode.addAlu64K d imm
  | .addAlu64X d s => FieldsDecode.addAlu64X d s
  | .subAluK d imm => FieldsDecode.subAluK d imm
  | .subAluX d s => FieldsDecode.subAluX d s
  | .subAlu64K d imm => FieldsDecode.subAlu64K d imm
  | .subAlu64X d s => FieldsDecode.subAlu64X d s
  | .mulAluK d imm => FieldsDecode.mulAluK d imm
  | .mulAluX d s => FieldsDecode.mulAluX d s
  | .mulAlu64K d imm => FieldsDecode.mulAlu64K d imm
  | .mulAlu64X d s => FieldsDecode.mulAlu64X d s
  | .divAluK d imm => FieldsDecode.divAluK d imm
  | .divAluX d s => FieldsDecode.divAluX d s
  | .divAlu64K d imm => FieldsDecode.divAlu64K d imm
  | .divAlu64X d s => FieldsDecode.divAlu64X d s
  | .sdivAluK d imm => FieldsDecode.sdivAluK d imm
  | .sdivAluX d s => FieldsDecode.sdivAluX d s
  | .sdivAlu64K d imm => FieldsDecode.sdivAlu64K d imm
  | .sdivAlu64X d s => FieldsDecode.sdivAlu64X d s
  | .orAluK d imm => FieldsDecode.orAluK d imm
  | .orAluX d s => FieldsDecode.orAluX d s
  | .orAlu64K d imm => FieldsDecode.orAlu64K d imm
  | .orAlu64X d s => FieldsDecode.orAlu64X d s
  | .andAluK d imm => FieldsDecode.andAluK d imm
  | .andAluX d s => FieldsDecode.andAluX d s
  | .andAlu64K d imm => FieldsDecode.andAlu64K d imm
  | .andAlu64X d s => FieldsDecode.andAlu64X d s
  | .lshAluK d imm => FieldsDecode.lshAluK d imm
  | .lshAluX d s => FieldsDecode.lshAluX d s
  | .lshAlu64K d imm => FieldsDecode.lshAlu64K d imm
  | .lshAlu64X d s => FieldsDecode.lshAlu64X d s
  | .rshAluK d imm => FieldsDecode.rshAluK d imm
  | .rshAluX d s => FieldsDecode.rshAluX d s
  | .rshAlu64K d imm => FieldsDecode.rshAlu64K d imm
  | .rshAlu64X d s => FieldsDecode.rshAlu64X d s
  | .negAlu d => FieldsDecode.negAlu d
  | .negAlu64 d => FieldsDecode.negAlu64 d
  | .modAluK d imm => FieldsDecode.modAluK d imm
  | .modAluX d s => FieldsDecode.modAluX d s
  | .modAlu64K d imm => FieldsDecode.modAlu64K d imm
  | .modAlu64X d s => FieldsDecode.modAlu64X d s
  | .smodAluK d imm => FieldsDecode.smodAluK d imm
  | .smodAluX d s => FieldsDecode.smodAluX d s
  | .smodAlu64K d imm => FieldsDecode.smodAlu64K d imm
  | .smodAlu64X d s => FieldsDecode.smodAlu64X d s
  | .xorAluK d imm => FieldsDecode.xorAluK d imm
  | .xorAluX d s => FieldsDecode.xorAluX d s
  | .xorAlu64K d imm => FieldsDecode.xorAlu64K d imm
  | .xorAlu64X d s => FieldsDecode.xorAlu64X d s
  | .movAluK d imm => FieldsDecode.movAluK d imm
  | .movAluX d s => FieldsDecode.movAluX d s
  | .movAlu64K d imm => FieldsDecode.movAlu64K d imm
  | .movAlu64X d s => FieldsDecode.movAlu64X d s
  | .movsx8AluX d s => FieldsDecode.movsx8AluX d s
  | .movsx16AluX d s => FieldsDecode.movsx16AluX d s
  | .movsx8Alu64X d s => FieldsDecode.movsx8Alu64X d s
  | .movsx16Alu64X d s => FieldsDecode.movsx16Alu64X d s
  | .movsx32Alu64X d s => FieldsDecode.movsx32Alu64X d s
  | .arshAluK d imm => FieldsDecode.arshAluK d imm
  | .arshAluX d s => FieldsDecode.arshAluX d s
  | .arshAlu64K d imm => FieldsDecode.arshAlu64K d imm
  | .arshAlu64X d s => FieldsDecode.arshAlu64X d s
  | .endToLe16 d => FieldsDecode.endToLe16 d
  | .endToLe32 d => FieldsDecode.endToLe32 d
  | .endToLe64 d => FieldsDecode.endToLe64 d
  | .endToBe16 d => FieldsDecode.endToBe16 d
  | .endToBe32 d => FieldsDecode.endToBe32 d
  | .endToBe64 d => FieldsDecode.endToBe64 d
  | .bswap16 d => FieldsDecode.bswap16 d
  | .bswap32 d => FieldsDecode.bswap32 d
  | .bswap64 d => FieldsDecode.bswap64 d
  | .jaJmp off => FieldsDecode.jaJmp off
  | .jaJmp32 imm => FieldsDecode.jaJmp32 imm
  | .jeqJmpK d off imm => FieldsDecode.jeqJmpK d off imm
  | .jeqJmpX d s off => FieldsDecode.jeqJmpX d s off
  | .jeqJmp32K d off imm => FieldsDecode.jeqJmp32K d off imm
  | .jeqJmp32X d s off => FieldsDecode.jeqJmp32X d s off
  | .jgtJmpK d off imm => FieldsDecode.jgtJmpK d off imm
  | .jgtJmpX d s off => FieldsDecode.jgtJmpX d s off
  | .jgtJmp32K d off imm => FieldsDecode.jgtJmp32K d off imm
  | .jgtJmp32X d s off => FieldsDecode.jgtJmp32X d s off
  | .jgeJmpK d off imm => FieldsDecode.jgeJmpK d off imm
  | .jgeJmpX d s off => FieldsDecode.jgeJmpX d s off
  | .jgeJmp32K d off imm => FieldsDecode.jgeJmp32K d off imm
  | .jgeJmp32X d s off => FieldsDecode.jgeJmp32X d s off
  | .jsetJmpK d off imm => FieldsDecode.jsetJmpK d off imm
  | .jsetJmpX d s off => FieldsDecode.jsetJmpX d s off
  | .jsetJmp32K d off imm => FieldsDecode.jsetJmp32K d off imm
  | .jsetJmp32X d s off => FieldsDecode.jsetJmp32X d s off
  | .jneJmpK d off imm => FieldsDecode.jneJmpK d off imm
  | .jneJmpX d s off => FieldsDecode.jneJmpX d s off
  | .jneJmp32K d off imm => FieldsDecode.jneJmp32K d off imm
  | .jneJmp32X d s off => FieldsDecode.jneJmp32X d s off
  | .jsgtJmpK d off imm => FieldsDecode.jsgtJmpK d off imm
  | .jsgtJmpX d s off => FieldsDecode.jsgtJmpX d s off
  | .jsgtJmp32K d off imm => FieldsDecode.jsgtJmp32K d off imm
  | .jsgtJmp32X d s off => FieldsDecode.jsgtJmp32X d s off
  | .jsgeJmpK d off imm => FieldsDecode.jsgeJmpK d off imm
  | .jsgeJmpX d s off => FieldsDecode.jsgeJmpX d s off
  | .jsgeJmp32K d off imm => FieldsDecode.jsgeJmp32K d off imm
  | .jsgeJmp32X d s off => FieldsDecode.jsgeJmp32X d s off
  | .jltJmpK d off imm => FieldsDecode.jltJmpK d off imm
  | .jltJmpX d s off => FieldsDecode.jltJmpX d s off
  | .jltJmp32K d off imm => FieldsDecode.jltJmp32K d off imm
  | .jltJmp32X d s off => FieldsDecode.jltJmp32X d s off
  | .jleJmpK d off imm => FieldsDecode.jleJmpK d off imm
  | .jleJmpX d s off => FieldsDecode.jleJmpX d s off
  | .jleJmp32K d off imm => FieldsDecode.jleJmp32K d off imm
  | .jleJmp32X d s off => FieldsDecode.jleJmp32X d s off
  | .jsltJmpK d off imm => FieldsDecode.jsltJmpK d off imm
  | .jsltJmpX d s off => FieldsDecode.jsltJmpX d s off
  | .jsltJmp32K d off imm => FieldsDecode.jsltJmp32K d off imm
  | .jsltJmp32X d s off => FieldsDecode.jsltJmp32X d s off
  | .jsleJmpK d off imm => FieldsDecode.jsleJmpK d off imm
  | .jsleJmpX d s off => FieldsDecode.jsleJmpX d s off
  | .jsleJmp32K d off imm => FieldsDecode.jsleJmp32K d off imm
  | .jsleJmp32X d s off => FieldsDecode.jsleJmp32X d s off
  | .callHelper imm => FieldsDecode.callHelper imm
  | .callLocal imm => FieldsDecode.callLocal imm
  | .callHelperBtf imm => FieldsDecode.callHelperBtf imm
  | .exit => FieldsDecode.exit
  | .ldxMemB d s off => FieldsDecode.ldxMemB d s off
  | .ldxMemH d s off => FieldsDecode.ldxMemH d s off
  | .ldxMemW d s off => FieldsDecode.ldxMemW d s off
  | .ldxMemDw d s off => FieldsDecode.ldxMemDw d s off
  | .stMemB d off imm => FieldsDecode.stMemB d off imm
  | .stMemH d off imm => FieldsDecode.stMemH d off imm
  | .stMemW d off imm => FieldsDecode.stMemW d off imm
  | .stMemDw d off imm => FieldsDecode.stMemDw d off imm
  | .stxMemB d s off => FieldsDecode.stxMemB d s off
  | .stxMemH d s off => FieldsDecode.stxMemH d s off
  | .stxMemW d s off => FieldsDecode.stxMemW d s off
  | .stxMemDw d s off => FieldsDecode.stxMemDw d s off
  | .ldxMemsxB d s off => FieldsDecode.ldxMemsxB d s off
  | .ldxMemsxH d s off => FieldsDecode.ldxMemsxH d s off
  | .ldxMemsxW d s off => FieldsDecode.ldxMemsxW d s off
  | .atomicAddW d s off => FieldsDecode.atomicAddW d s off
  | .atomicFetchAddW d s off => FieldsDecode.atomicFetchAddW d s off
  | .atomicOrW d s off => FieldsDecode.atomicOrW d s off
  | .atomicFetchOrW d s off => FieldsDecode.atomicFetchOrW d s off
  | .atomicAndW d s off => FieldsDecode.atomicAndW d s off
  | .atomicFetchAndW d s off => FieldsDecode.atomicFetchAndW d s off
  | .atomicXorW d s off => FieldsDecode.atomicXorW d s off
  | .atomicFetchXorW d s off => FieldsDecode.atomicFetchXorW d s off
  | .atomicXchgW d s off => FieldsDecode.atomicXchgW d s off
  | .atomicCmpxchgW d s off => FieldsDecode.atomicCmpxchgW d s off
  | .atomicAddDw d s off => FieldsDecode.atomicAddDw d s off
  | .atomicFetchAddDw d s off => FieldsDecode.atomicFetchAddDw d s off
  | .atomicOrDw d s off => FieldsDecode.atomicOrDw d s off
  | .atomicFetchOrDw d s off => FieldsDecode.atomicFetchOrDw d s off
  | .atomicAndDw d s off => FieldsDecode.atomicAndDw d s off
  | .atomicFetchAndDw d s off => FieldsDecode.atomicFetchAndDw d s off
  | .atomicXorDw d s off => FieldsDecode.atomicXorDw d s off
  | .atomicFetchXorDw d s off => FieldsDecode.atomicFetchXorDw d s off
  | .atomicXchgDw d s off => FieldsDecode.atomicXchgDw d s off
  | .atomicCmpxchgDw d s off => FieldsDecode.atomicCmpxchgDw d s off
  | .ldImm64 d imm nextImm => FieldsDecode.ldImm64 d imm nextImm
  | .ldMapByFd d imm => FieldsDecode.ldMapByFd d imm
  | .ldMapValByFd d imm nextImm => FieldsDecode.ldMapValByFd d imm nextImm
  | .ldVarAddr d imm => FieldsDecode.ldVarAddr d imm
  | .ldCodeAddr d imm => FieldsDecode.ldCodeAddr d imm
  | .ldMapByIdx d imm => FieldsDecode.ldMapByIdx d imm
  | .ldMapValByIdx d imm nextImm => FieldsDecode.ldMapValByIdx d imm nextImm
  | .wideSecondSlot imm => FieldsDecode.wideSecondSlot imm
  | .ldAbsW imm => FieldsDecode.ldAbsW imm
  | .ldAbsH imm => FieldsDecode.ldAbsH imm
  | .ldAbsB imm => FieldsDecode.ldAbsB imm
  | .ldIndW s imm => FieldsDecode.ldIndW s imm
  | .ldIndH s imm => FieldsDecode.ldIndH s imm
  | .ldIndB s imm => FieldsDecode.ldIndB s imm

/-- Settles O4: the slots hold the fields of the instruction's row, from which the decoder reads it back. -/
theorem decodeEncode : Obligations.DecodeEncode := by
  unfold Obligations.DecodeEncode
  exact fun e i rest hwf => decode_encode_of_fieldsDecode (fieldsDecode i) hwf e rest

/-! ### Whatever decodes has the fields it was decoded from -/

/-- `i` is a well-formed one-slot instruction with the fields `f`. -/
structure BasicFrom (f : Fields) (i : Instr) : Prop where
  wf : i.wf = true
  fields_eq : i.fields = f
  secondImm_eq : i.secondImm = none

/-- Class and specific are the two parts of the opcode byte (R63). -/
theorem opcode_eq_of_cls_specific {f : Fields} {c k : Nat} (hcls : f.cls = c) (hspecific : f.specific = k) :
    f.opcode = BitVec.ofNat 8 (8 * k + c) := by
  subst hcls hspecific
  apply BitVec.eq_of_toNat_eq
  simp only [Fields.cls, Fields.specific, BitVec.extractLsb'_toNat, BitVec.toNat_ofNat, Nat.shiftRight_eq_div_pow]
  have hlt := f.opcode.isLt
  omega

section
variable {f : Fields} {i : Instr} {op : BitVec 8}

/-- An accepted instruction has the fields it was read from, once its unused fields are known to be zero. -/
theorem accept_basicFrom {zeroFields : Bool} {j : Instr} (h : accept zeroFields j = .ok i)
    (hfields : zeroFields = true → j.fields = f) (hsecond : j.secondImm = none) : BasicFrom f i := by
  obtain ⟨hzero, hwf, rfl⟩ := accept_eq_ok.mp h
  exact ⟨hwf, hfields hzero, hsecond⟩

/-! #### The forms, one lemma each: what the table's row of the instruction must be -/

theorem formK_basicFrom {c : RegNum → Imm → Instr} (hop : f.opcode = op)
    (hrow : ∀ d imm, (c d imm).fields = ⟨op, d, 0, 0, imm⟩ ∧ (c d imm).secondImm = none)
    (h : formK c f = .ok i) : BasicFrom f i := by
  obtain ⟨opcode, d, r, off, imm⟩ := f
  subst hop
  refine accept_basicFrom h (fun hzero => ?_) (hrow d imm).2
  simp at hzero
  simp [hrow, hzero]

theorem formX_basicFrom {c : RegNum → RegNum → Instr} (hop : f.opcode = op)
    (hrow : ∀ d r, (c d r).fields = ⟨op, d, r, 0, 0⟩ ∧ (c d r).secondImm = none)
    (h : formX c f = .ok i) : BasicFrom f i := by
  obtain ⟨opcode, d, r, off, imm⟩ := f
  subst hop
  refine accept_basicFrom h (fun hzero => ?_) (hrow d r).2
  simp at hzero
  simp [hrow, hzero]

theorem formDivK_basicFrom {u g : RegNum → Imm → Instr} (hop : f.opcode = op)
    (hu : ∀ d imm, (u d imm).fields = ⟨op, d, 0, 0, imm⟩ ∧ (u d imm).secondImm = none)
    (hg : ∀ d imm, (g d imm).fields = ⟨op, d, 0, 1, imm⟩ ∧ (g d imm).secondImm = none)
    (h : formDivK u g f = .ok i) : BasicFrom f i := by
  obtain ⟨opcode, d, r, off, imm⟩ := f
  subst hop
  simp only [formDivK] at h
  split_ifs at h with h0 h1
  · exact accept_basicFrom h (fun hzero => by simp at hzero; simp [hu, hzero, h0]) (hu d imm).2
  · exact accept_basicFrom h (fun hzero => by simp at hzero; simp [hg, hzero, h1]) (hg d imm).2

theorem formDivX_basicFrom {u g : RegNum → RegNum → Instr} (hop : f.opcode = op)
    (hu : ∀ d r, (u d r).fields = ⟨op, d, r, 0, 0⟩ ∧ (u d r).secondImm = none)
    (hg : ∀ d r, (g d r).fields = ⟨op, d, r, 1, 0⟩ ∧ (g d r).secondImm = none)
    (h : formDivX u g f = .ok i) : BasicFrom f i := by
  obtain ⟨opcode, d, r, off, imm⟩ := f
  subst hop
  simp only [formDivX] at h
  split_ifs at h with h0 h1
  · exact accept_basicFrom h (fun hzero => by simp at hzero; simp [hu, hzero, h0]) (hu d r).2
  · exact accept_basicFrom h (fun hzero => by simp at hzero; simp [hg, hzero, h1]) (hg d r).2

theorem formNeg_basicFrom {c : RegNum → Instr} (hop : f.opcode = op)
    (hrow : ∀ d, (c d).fields = ⟨op, d, 0, 0, 0⟩ ∧ (c d).secondImm = none)
    (h : formNeg c f = .ok i) : BasicFrom f i := by
  obtain ⟨opcode, d, r, off, imm⟩ := f
  subst hop
  refine accept_basicFrom h (fun hzero => ?_) (hrow d).2
  simp [and_assoc] at hzero
  simp [hrow, hzero]

theorem formMov32_basicFrom (hop : f.opcode = 0xbc) (h : formMov32 f = .ok i) : BasicFrom f i := by
  obtain ⟨opcode, d, r, off, imm⟩ := f
  simp only at hop
  subst hop
  simp only [formMov32] at h
  split_ifs at h with h0 h8 h16
  · exact accept_basicFrom h (fun hzero => by simp at hzero; simp [Instr.fields, hzero, h0]) rfl
  · exact accept_basicFrom h (fun hzero => by simp at hzero; simp [Instr.fields, hzero, h8]) rfl
  · exact accept_basicFrom h (fun hzero => by simp at hzero; simp [Instr.fields, hzero, h16]) rfl

theorem formMov64_basicFrom (hop : f.opcode = 0xbf) (h : formMov64 f = .ok i) : BasicFrom f i := by
  obtain ⟨opcode, d, r, off, imm⟩ := f
  simp only at hop
  subst hop
  simp only [formMov64] at h
  split_ifs at h with h0 h8 h16 h32
  · exact accept_basicFrom h (fun hzero => by simp at hzero; simp [Instr.fields, hzero, h0]) rfl
  · exact accept_basicFrom h (fun hzero => by simp at hzero; simp [Instr.fields, hzero, h8]) rfl
  · exact accept_basicFrom h (fun hzero => by simp at hzero; simp [Instr.fields, hzero, h16]) rfl
  · exact accept_basicFrom h (fun hzero => by simp at hzero; simp [Instr.fields, hzero, h32]) rfl

theorem formEnd_basicFrom {c16 c32 c64 : RegNum → Instr} (hop : f.opcode = op)
    (h16 : ∀ d, (c16 d).fields = ⟨op, d, 0, 0, 16⟩ ∧ (c16 d).secondImm = none)
    (h32 : ∀ d, (c32 d).fields = ⟨op, d, 0, 0, 32⟩ ∧ (c32 d).secondImm = none)
    (h64 : ∀ d, (c64 d).fields = ⟨op, d, 0, 0, 64⟩ ∧ (c64 d).secondImm = none)
    (h : formEnd c16 c32 c64 f = .ok i) : BasicFrom f i := by
  obtain ⟨opcode, d, r, off, imm⟩ := f
  subst hop
  simp only [formEnd] at h
  split_ifs at h with w16 w32 w64
  · exact accept_basicFrom h (fun hzero => by simp at hzero; simp [h16, hzero, w16]) (h16 d).2
  · exact accept_basicFrom h (fun hzero => by simp at hzero; simp [h32, hzero, w32]) (h32 d).2
  · exact accept_basicFrom h (fun hzero => by simp at hzero; simp [h64, hzero, w64]) (h64 d).2

theorem formJumpK_basicFrom {c : RegNum → Offset → Imm → Instr} (hop : f.opcode = op)
    (hrow : ∀ d off imm, (c d off imm).fields = ⟨op, d, 0, off, imm⟩ ∧ (c d off imm).secondImm = none)
    (h : formJumpK c f = .ok i) : BasicFrom f i := by
  obtain ⟨opcode, d, r, off, imm⟩ := f
  subst hop
  refine accept_basicFrom h (fun hzero => ?_) (hrow d off imm).2
  simp at hzero
  simp [hrow, hzero]

theorem formMemX_basicFrom {c : RegNum → RegNum → Offset → Instr} (hop : f.opcode = op)
    (hrow : ∀ d r off, (c d r off).fields = ⟨op, d, r, off, 0⟩ ∧ (c d r off).secondImm = none)
    (h : formMemX c f = .ok i) : BasicFrom f i := by
  obtain ⟨opcode, d, r, off, imm⟩ := f
  subst hop
  refine accept_basicFrom h (fun hzero => ?_) (hrow d r off).2
  simp at hzero
  simp [hrow, hzero]

theorem formCall_basicFrom (hop : f.opcode = 0x85) (h : formCall f = .ok i) : BasicFrom f i := by
  obtain ⟨opcode, d, r, off, imm⟩ := f
  simp only at hop
  subst hop
  simp only [formCall] at h
  split_ifs at h with h0 h1 h2
  · exact accept_basicFrom h (fun hzero => by simp at hzero; simp [Instr.fields, hzero, h0]) rfl
  · exact accept_basicFrom h (fun hzero => by simp at hzero; simp [Instr.fields, hzero, h1]) rfl
  · exact accept_basicFrom h (fun hzero => by simp at hzero; simp [Instr.fields, hzero, h2]) rfl

theorem formAbs_basicFrom {c : Imm → Instr} (hop : f.opcode = op)
    (hrow : ∀ imm, (c imm).fields = ⟨op, 0, 0, 0, imm⟩ ∧ (c imm).secondImm = none)
    (h : formAbs c f = .ok i) : BasicFrom f i := by
  obtain ⟨opcode, d, r, off, imm⟩ := f
  subst hop
  refine accept_basicFrom h (fun hzero => ?_) (hrow imm).2
  simp [and_assoc] at hzero
  simp [hrow, hzero]

theorem formInd_basicFrom {c : RegNum → Imm → Instr} (hop : f.opcode = op)
    (hrow : ∀ r imm, (c r imm).fields = ⟨op, 0, r, 0, imm⟩ ∧ (c r imm).secondImm = none)
    (h : formInd c f = .ok i) : BasicFrom f i := by
  obtain ⟨opcode, d, r, off, imm⟩ := f
  subst hop
  refine accept_basicFrom h (fun hzero => ?_) (hrow r imm).2
  simp at hzero
  simp [hrow, hzero]

theorem formSt_basicFrom {c : RegNum → Offset → Imm → Instr} (hop : f.opcode = op)
    (hrow : ∀ d off imm, (c d off imm).fields = ⟨op, d, 0, off, imm⟩ ∧ (c d off imm).secondImm = none)
    (h : formSt c f = .ok i) : BasicFrom f i :=
  formJumpK_basicFrom hop hrow h

/-- The row of an atomic: opcode byte `op` and the selector `imm` (R301). -/
def AtomicRow (op : BitVec 8) (imm : Imm) (c : RegNum → RegNum → Offset → Instr) : Prop :=
  ∀ d r off, (c d r off).fields = ⟨op, d, r, off, imm⟩ ∧ (c d r off).secondImm = none

theorem accept_atomicRow {imm : Imm} {c : RegNum → RegNum → Offset → Instr} (hop : f.opcode = op)
    (hrow : AtomicRow op imm c) (himm : f.imm = imm) (h : accept true (c f.dst f.src f.off) = .ok i) :
    BasicFrom f i := by
  subst hop himm
  exact accept_basicFrom h (fun _ => (hrow _ _ _).1) (hrow _ _ _).2

/-- A choice of the decoder that answers an instruction answers it on one of its sides. -/
theorem of_ite_ok {c P : Prop} [Decidable c] {x y : Except DecodeError Instr} (h : (if c then x else y) = .ok i)
    (hx : c → x = .ok i → P) (hy : y = .ok i → P) : P := by
  split at h
  · exact hx ‹c› h
  · exact hy h

theorem formAtomic_basicFrom
    {add fetchAdd or fetchOr and fetchAnd xor fetchXor xchg cmpxchg : RegNum → RegNum → Offset → Instr}
    (hop : f.opcode = op) (r00 : AtomicRow op 0x00 add) (r01 : AtomicRow op 0x01 fetchAdd)
    (r40 : AtomicRow op 0x40 or) (r41 : AtomicRow op 0x41 fetchOr) (r50 : AtomicRow op 0x50 and)
    (r51 : AtomicRow op 0x51 fetchAnd) (ra0 : AtomicRow op 0xa0 xor) (ra1 : AtomicRow op 0xa1 fetchXor)
    (re1 : AtomicRow op 0xe1 xchg) (rf1 : AtomicRow op 0xf1 cmpxchg)
    (h : formAtomic add fetchAdd or fetchOr and fetchAnd xor fetchXor xchg cmpxchg f = .ok i) : BasicFrom f i := by
  unfold formAtomic at h
  exact of_ite_ok h (accept_atomicRow hop r00) fun h => of_ite_ok h (accept_atomicRow hop r01) fun h =>
    of_ite_ok h (accept_atomicRow hop r40) fun h => of_ite_ok h (accept_atomicRow hop r41) fun h =>
    of_ite_ok h (accept_atomicRow hop r50) fun h => of_ite_ok h (accept_atomicRow hop r51) fun h =>
    of_ite_ok h (accept_atomicRow hop ra0) fun h => of_ite_ok h (accept_atomicRow hop ra1) fun h =>
    of_ite_ok h (accept_atomicRow hop re1) fun h => of_ite_ok h (accept_atomicRow hop rf1) fun h => nomatch h

end

/-! #### The classes: which opcode byte stands at which form -/

section
variable {f : Fields} {i : Instr}

theorem decodeLd_basicFrom (hcls : f.cls = 0) (h : decodeLd f = .ok i) : BasicFrom f i := by
  unfold decodeLd at h
  split at h
  case h_1 hs =>
    have hop := opcode_eq_of_cls_specific hcls hs
    obtain ⟨opcode, d, r, off, imm⟩ := f
    subst hop
    exact accept_basicFrom h (fun hzero => by simp [and_assoc] at hzero; simp [Instr.fields, hzero]) rfl
  case h_2 hs | h_3 hs | h_4 hs =>
    exact formAbs_basicFrom (opcode_eq_of_cls_specific hcls hs) (fun _ => ⟨rfl, rfl⟩) h
  case h_5 hs | h_6 hs | h_7 hs =>
    exact formInd_basicFrom (opcode_eq_of_cls_specific hcls hs) (fun _ _ => ⟨rfl, rfl⟩) h
  case h_8 => exact nomatch h

theorem decodeLdx_basicFrom (hcls : f.cls = 1) (h : decodeLdx f = .ok i) : BasicFrom f i := by
  unfold decodeLdx at h
  split at h
  case h_8 => exact nomatch h
  all_goals
    rename_i hs
    exact formMemX_basicFrom (opcode_eq_of_cls_specific hcls hs) (fun _ _ _ => ⟨rfl, rfl⟩) h

theorem decodeSt_basicFrom (hcls : f.cls = 2) (h : decodeSt f = .ok i) : BasicFrom f i := by
  unfold decodeSt at h
  split at h
  case h_5 => exact nomatch h
  all_goals
    rename_i hs
    exact formSt_basicFrom (opcode_eq_of_cls_specific hcls hs) (fun _ _ _ => ⟨rfl, rfl⟩) h

theorem decodeStx_basicFrom (hcls : f.cls = 3) (h : decodeStx f = .ok i) : BasicFrom f i := by
  unfold decodeStx at h
  split at h
  case h_5 hs | h_6 hs =>
    exact formAtomic_basicFrom (opcode_eq_of_cls_specific hcls hs) (fun _ _ _ => ⟨rfl, rfl⟩) (fun _ _ _ => ⟨rfl, rfl⟩)
      (fun _ _ _ => ⟨rfl, rfl⟩) (fun _ _ _ => ⟨rfl, rfl⟩) (fun _ _ _ => ⟨rfl, rfl⟩) (fun _ _ _ => ⟨rfl, rfl⟩)
      (fun _ _ _ => ⟨rfl, rfl⟩) (fun _ _ _ => ⟨rfl, rfl⟩) (fun _ _ _ => ⟨rfl, rfl⟩) (fun _ _ _ => ⟨rfl, rfl⟩) h
  case h_7 => exact nomatch h
  all_goals
    rename_i hs
    exact formMemX_basicFrom (opcode_eq_of_cls_specific hcls hs) (fun _ _ _ => ⟨rfl, rfl⟩) h

theorem decodeAlu_basicFrom (hcls : f.cls = 4) (h : decodeAlu f = .ok i) : BasicFrom f i := by
  unfold decodeAlu at h
  split at h
  case h_7 hs | h_18 hs =>
    exact formDivK_basicFrom (opcode_eq_of_cls_specific hcls hs) (fun _ _ => ⟨rfl, rfl⟩) (fun _ _ => ⟨rfl, rfl⟩) h
  case h_8 hs | h_19 hs =>
    exact formDivX_basicFrom (opcode_eq_of_cls_specific hcls hs) (fun _ _ => ⟨rfl, rfl⟩) (fun _ _ => ⟨rfl, rfl⟩) h
  case h_17 hs => exact formNeg_basicFrom (opcode_eq_of_cls_specific hcls hs) (fun _ => ⟨rfl, rfl⟩) h
  case h_23 hs => exact formMov32_basicFrom (opcode_eq_of_cls_specific hcls hs) h
  case h_26 hs | h_27 hs =>
    exact formEnd_basicFrom (opcode_eq_of_cls_specific hcls hs) (fun _ => ⟨rfl, rfl⟩) (fun _ => ⟨rfl, rfl⟩)
      (fun _ => ⟨rfl, rfl⟩) h
  case h_28 => exact nomatch h
  case h_2 hs | h_4 hs | h_6 hs | h_10 hs | h_12 hs | h_14 hs | h_16 hs | h_21 hs | h_25 hs =>
    exact formX_basicFrom (opcode_eq_of_cls_specific hcls hs) (fun _ _ => ⟨rfl, rfl⟩) h
  all_goals
    rename_i hs
    exact formK_basicFrom (opcode_eq_of_cls_specific hcls hs) (fun _ _ => ⟨rfl, rfl⟩) h

theorem decodeAlu64_basicFrom (hcls : f.cls = 7) (h : decodeAlu64 f = .ok i) : BasicFrom f i := by
  unfold decodeAlu64 at h
  split at h
  case h_7 hs | h_18 hs =>
    exact formDivK_basicFrom (opcode_eq_of_cls_specific hcls hs) (fun _ _ => ⟨rfl, rfl⟩) (fun _ _ => ⟨rfl, rfl⟩) h
  case h_8 hs | h_19 hs =>
    exact formDivX_basicFrom (opcode_eq_of_cls_specific hcls hs) (fun _ _ => ⟨rfl, rfl⟩) (fun _ _ => ⟨rfl, rfl⟩) h
  case h_17 hs => exact formNeg_basicFrom (opcode_eq_of_cls_specific hcls hs) (fun _ => ⟨rfl, rfl⟩) h
  case h_23 hs => exact formMov64_basicFrom (opcode_eq_of_cls_specific hcls hs) h
  case h_26 hs =>
    exact formEnd_basicFrom (opcode_eq_of_cls_specific hcls hs) (fun _ => ⟨rfl, rfl⟩) (fun _ => ⟨rfl, rfl⟩)
      (fun _ => ⟨rfl, rfl⟩) h
  case h_27 => exact nomatch h
  case h_2 hs | h_4 hs | h_6 hs | h_10 hs | h_12 hs | h_14 hs | h_16 hs | h_21 hs | h_25 hs =>
    exact formX_basicFrom (opcode_eq_of_cls_specific hcls hs) (fun _ _ => ⟨rfl, rfl⟩) h
  all_goals
    rename_i hs
    exact formK_basicFrom (opcode_eq_of_cls_specific hcls hs) (fun _ _ => ⟨rfl, rfl⟩) h

theorem decodeJmp_basicFrom (hcls : f.cls = 5) (h : decodeJmp f = .ok i) : BasicFrom f i := by
  unfold decodeJmp at h
  split at h
  case h_1 hs | h_17 hs =>
    have hop := opcode_eq_of_cls_specific hcls hs
    obtain ⟨opcode, d, r, off, imm⟩ := f
    subst hop
    exact accept_basicFrom h (fun hzero => by simp [and_assoc] at hzero; simp [Instr.fields, hzero]) rfl
  case h_16 hs => exact formCall_basicFrom (opcode_eq_of_cls_specific hcls hs) h
  case h_26 => exact nomatch h
  case h_3 hs | h_5 hs | h_7 hs | h_9 hs | h_11 hs | h_13 hs | h_15 hs | h_19 hs | h_21 hs | h_23 hs | h_25 hs =>
    exact formMemX_basicFrom (opcode_eq_of_cls_specific hcls hs) (fun _ _ _ => ⟨rfl, rfl⟩) h
  all_goals
    rename_i hs
    exact formJumpK_basicFrom (opcode_eq_of_cls_specific hcls hs) (fun _ _ _ => ⟨rfl, rfl⟩) h

theorem decodeJmp32_basicFrom (hcls : f.cls = 6) (h : decodeJmp32 f = .ok i) : BasicFrom f i := by
  unfold decodeJmp32 at h
  split at h
  case h_1 hs =>
    have hop := opcode_eq_of_cls_specific hcls hs
    obtain ⟨opcode, d, r, off, imm⟩ := f
    subst hop
    exact accept_basicFrom h (fun hzero => by simp [and_assoc] at hzero; simp [Instr.fields, hzero]) rfl
  case h_24 => exact nomatch h
  case h_3 hs | h_5 hs | h_7 hs | h_9 hs | h_11 hs | h_13 hs | h_15 hs | h_17 hs | h_19 hs | h_21 hs | h_23 hs =>
    exact formMemX_basicFrom (opcode_eq_of_cls_specific hcls hs) (fun _ _ _ => ⟨rfl, rfl⟩) h
  all_goals
    rename_i hs
    exact formJumpK_basicFrom (opcode_eq_of_cls_specific hcls hs) (fun _ _ _ => ⟨rfl, rfl⟩) h

/-- The opcode byte of a basic instruction decides its form, and each form reads the fields of its rows. -/
theorem decodeBasic_basicFrom (h : decodeBasic f = .ok i) : BasicFrom f i := by
  unfold decodeBasic at h
  split at h
  case h_1 hcls => exact decodeLd_basicFrom hcls h
  case h_2 hcls => exact decodeLdx_basicFrom hcls h
  case h_3 hcls => exact decodeSt_basicFrom hcls h
  case h_4 hcls => exact decodeStx_basicFrom hcls h
  case h_5 hcls => exact decodeAlu_basicFrom hcls h
  case h_6 hcls => exact decodeJmp_basicFrom hcls h
  case h_7 hcls => exact decodeJmp32_basicFrom hcls h
  case h_8 h0 h1 h2 h3 h4 h5 h6 =>
    have hlt : f.cls < 8 := (f.opcode.extractLsb' 0 3).isLt
    rw [imp_false] at h0 h1 h2 h3 h4 h5 h6
    exact decodeAlu64_basicFrom (by omega) h

/-- `i` is a well-formed wide instruction whose two slots have the fields `f` and `g`. -/
structure WideFrom (f g : Fields) (i : Instr) : Prop where
  wf : i.wf = true
  fields_eq : i.fields = f
  secondImm_eq : i.secondImm = some g.imm
  second_eq : secondSlotFields g.imm = g

theorem decodeWide_wideFrom {g : Fields} (hop : f.opcode = wideOpcode) (h : decodeWide f g = .ok i) :
    WideFrom f g i := by
  obtain ⟨opcode, d, r, off, imm⟩ := f
  simp only at hop
  subst hop
  unfold decodeWide at h
  split_ifs at h with hmal h0 h1 h2 h3 h4 h5 h6
  all_goals
    simp only [not_or, not_not] at hmal
    obtain ⟨hopcode, hdst, hsrc, hoff⟩ := hmal
    have hsecond : secondSlotFields g.imm = g := by
      obtain ⟨_, _, _, _, _⟩ := g
      simp_all [secondSlotFields]
    obtain ⟨hzero, hwf, rfl⟩ := accept_eq_ok.mp h
    simp only [Bool.and_eq_true, beq_iff_eq] at hzero
    refine ⟨hwf, ?_, ?_, hsecond⟩
  all_goals simp_all [Instr.fields, Instr.secondImm, wideOpcode]

end

/-- What decodes was read from one slot with another opcode than the wide one, or from two with it. -/
theorem decode_cases {e : Endian} {slots : List Slot} {i : Instr} (h : decode e slots = .ok i) :
    (∃ sl rest, slots = sl :: rest ∧ (sl.fields e).opcode ≠ wideOpcode ∧ BasicFrom (sl.fields e) i) ∨
    ∃ sl second rest, slots = sl :: second :: rest ∧ (sl.fields e).opcode = wideOpcode ∧
      WideFrom (sl.fields e) (second.fields e) i := by
  unfold decode at h
  split at h
  case h_1 => exact nomatch h
  case h_2 sl rest =>
    split_ifs at h with hop
    · split at h
      case h_1 => exact nomatch h
      case h_2 second tail => exact .inr ⟨sl, second, tail, rfl, hop, decodeWide_wideFrom hop h⟩
    · exact .inl ⟨sl, rest, rfl, hop, decodeBasic_basicFrom h⟩

/-- Settles O5: the fields of the slots read are those of the instruction's row, and a slot is that of its fields. -/
theorem encodeDecode : Obligations.EncodeDecode := by
  unfold Obligations.EncodeDecode
  intro e slots i h
  obtain ⟨sl, rest, rfl, -, hi⟩ | ⟨sl, second, rest, rfl, -, hi⟩ := decode_cases h
  · exact ⟨hi.wf, by simp [encode, Instr.size, hi.secondImm_eq, hi.fields_eq]⟩
  · exact ⟨hi.wf, by simp [encode, Instr.size, hi.secondImm_eq, hi.fields_eq, hi.second_eq]⟩

/-- Bytes that are the encoding of a well-formed instruction decode to it. -/
theorem decode_bytes {e : Endian} {bytes : List Byte} {i : Instr} (hbytes : slotsOfBytes bytes = encode e i)
    (hwf : i.wf = true) : decode e (slotsOfBytes bytes) = .ok i := by
  have h := decodeEncode e i [] hwf
  rwa [List.append_nil, ← hbytes] at h

/-- Settles O2: each byte image is the encoding of its instruction on its host. -/
theorem sampleEncodings : Obligations.SampleEncodings := by
  unfold Obligations.SampleEncodings
  refine ⟨?_, ?_, ?_, ?_, ?_, ?_, ?_, ?_, ?_, ?_, ?_, ?_, ?_, ?_, ?_, ?_, ?_, ?_, ?_, ?_, ?_, ?_⟩
  all_goals exact decode_bytes (by decide) (by decide)

/-! ### The selector of CALL (43_jump.md R205) -/

section
variable (e : Endian) (d r : RegNum) (off : Offset) (imm : Imm) (rest : List Slot) {i : Instr}

theorem decode_call :
    decode e ((⟨0x85, d, r, off, imm⟩ : Fields).slot e :: rest) = formCall ⟨0x85, d, r, off, imm⟩ := by
  rw [decode_slot e rest (show (0x85 : BitVec 8) ≠ wideOpcode by decide)]
  simp [decodeBasic, Fields.cls, Fields.specific, decodeJmp]

theorem formCall_ok {f : Fields} (h : formCall f = .ok i) : f.src.toNat ≤ 2 ∧ f.dst = 0 ∧ f.off = 0 := by
  unfold formCall at h
  split_ifs at h with h0 h1 h2
  all_goals
    have hzero := (accept_eq_ok.mp h).1
    simp only [Bool.and_eq_true, beq_iff_eq] at hzero
    simp [*]

/-- The other opcode bytes of code 0x8 in the two jump classes decode to nothing. -/
theorem decode_callOther_ne {op : BitVec 8} (hop : op ∈ [(0x8d : BitVec 8), 0x86, 0x8e]) :
    decode e ((⟨op, d, r, off, imm⟩ : Fields).slot e :: rest) ≠ .ok i := by
  have hnarrow : ∀ op ∈ [(0x8d : BitVec 8), 0x86, 0x8e], op ≠ wideOpcode := by decide
  rw [decode_slot e rest (hnarrow op hop)]
  simp only [List.mem_cons, List.not_mem_nil, or_false] at hop
  obtain rfl | rfl | rfl := hop
  · simp [decodeBasic, Fields.cls, Fields.specific, decodeJmp]
  · simp [decodeBasic, Fields.cls, Fields.specific, decodeJmp32]
  · simp [decodeBasic, Fields.cls, Fields.specific, decodeJmp32]

end

/-- Settles O8: the three calls are read back from their encodings, and opcode 0x85 decodes by the form of CALL. -/
theorem callSubtypes : Obligations.CallSubtypes := by
  unfold Obligations.CallSubtypes
  intro e d r off imm rest
  refine ⟨decodeEncode e (.callHelper imm) rest rfl, decodeEncode e (.callLocal imm) rest rfl,
    decodeEncode e (.callHelperBtf imm) rest rfl, fun hbad i hi => ?other, fun op hop i => ?otherOpcode⟩
  case other =>
    rw [decode_call] at hi
    obtain ⟨hsrc, hdst, hoff⟩ := formCall_ok hi
    obtain hbad | hbad | hbad := hbad
    · exact Nat.not_lt.mpr hsrc hbad
    · exact hbad hdst
    · exact hbad hoff
  case otherOpcode => exact decode_callOther_ne e d r off imm rest hop

/-! ### The rows of the opcode table (R83) -/

/-- The fields that two field-wise masks have in common. -/
def fieldsAnd (f g : Fields) : Fields :=
  ⟨f.opcode &&& g.opcode, f.dst &&& g.dst, f.src &&& g.src, f.off &&& g.off, f.imm &&& g.imm⟩

/-- Masking a canonical word masks its fields one by one. -/
theorem word_and_word (f g : Fields) : f.word &&& g.word = (fieldsAnd f g).word := by
  have happend : (f.imm ++ f.off ++ f.src ++ f.dst ++ f.opcode) &&& (g.imm ++ g.off ++ g.src ++ g.dst ++ g.opcode) =
      (f.imm &&& g.imm) ++ (f.off &&& g.off) ++ (f.src &&& g.src) ++ (f.dst &&& g.dst) ++ (f.opcode &&& g.opcode) := by
    simp only [BitVec.and_append]
  exact happend

/-- The masked fields of an instruction are the fixed ones of its row, and the free fields are not masked. -/
theorem fields_matches_row (i : Instr) :
    fieldsAnd i.fields (Fields.ofWord i.row.mask) = Fields.ofWord i.row.value := by
  cases i
  all_goals simp only [Instr.fields, Instr.row, Fields.ofWord, fieldsAnd, Fields.mk.injEq]
  all_goals refine ⟨?_, ?_, ?_, ?_, ?_⟩
  all_goals simp only [BitVec.reduceExtractLsb', BitVec.reduceAnd, BitVec.and_zero, BitVec.ofNat_eq_ofNat]

theorem word_matches_row (i : Instr) : i.fields.word &&& i.row.mask = i.row.value := by
  rw [← Fields.word_ofWord i.row.mask, word_and_word, fields_matches_row, Fields.word_ofWord]

/-- The opcode, regs and offset of a second slot are zero. -/
theorem secondWord_and_low (nextImm : Imm) : (secondSlotFields nextImm).word &&& 0x00000000ffffffff = 0 := by
  have hmask : Fields.ofWord 0x00000000ffffffff = ⟨0xff, 0xf, 0xf, 0xffff, 0⟩ := by decide
  rw [← Fields.word_ofWord 0x00000000ffffffff, hmask, word_and_word]
  simp [secondSlotFields, fieldsAnd, Fields.word]

/-- Only a wide row masks a second word, in which it allows at most a next_imm. -/
theorem secondWord_matches_row (i : Instr) {m : BitVec 64} (hm : i.row.maskNext = some m) :
    ∃ nextImm, i.secondImm = some nextImm ∧ (secondSlotFields nextImm).word &&& m = 0 := by
  cases i
  case ldImm64 d imm nextImm | ldMapValByFd d imm nextImm | ldMapValByIdx d imm nextImm =>
    obtain rfl := Option.some.inj hm
    exact ⟨nextImm, rfl, secondWord_and_low nextImm⟩
  case ldMapByFd d imm | ldVarAddr d imm | ldCodeAddr d imm | ldMapByIdx d imm =>
    exact ⟨0, rfl, BitVec.zero_and⟩
  all_goals exact nomatch hm

/-- Settles O6: what decodes has the fields of its instruction, whose words match its row. -/
theorem decodedWordMatchesRow : Obligations.DecodedWordMatchesRow := by
  unfold Obligations.DecodedWordMatchesRow
  intro e sl rest i h
  obtain ⟨_, _, hcons, -, hi⟩ | ⟨_, second, tail, hcons, -, hi⟩ := decode_cases h
  · obtain ⟨rfl, rfl⟩ := List.cons.inj hcons
    refine ⟨hi.fields_eq ▸ word_matches_row i, fun m hm => ?_⟩
    obtain ⟨nextImm, hsecond, -⟩ := secondWord_matches_row i hm
    exact nomatch hi.secondImm_eq.symm.trans hsecond
  · obtain ⟨rfl, rfl⟩ := List.cons.inj hcons
    refine ⟨hi.fields_eq ▸ word_matches_row i, fun m hm => ⟨second, tail, rfl, ?_⟩⟩
    obtain ⟨nextImm, hsecond, hzero⟩ := secondWord_matches_row i hm
    obtain rfl := Option.some.inj (hi.secondImm_eq.symm.trans hsecond)
    rwa [hi.second_eq] at hzero

/-- The mask of the rows with opcode byte `op`: which fields besides the opcode are fixed is decided by the opcode
alone, whatever selects between several rows of it. -/
def opcodeMask (op : BitVec 8) : BitVec 64 :=
  let isX := op.getLsbD 3
  match (op.extractLsb' 0 3).toNat with
  | 0 =>
    if op = wideOpcode then 0x00000000fffff0ff
    else if op = 0x40 ∨ op = 0x48 ∨ op = 0x50 then 0x00000000ffff0fff
    else 0x00000000ffffffff
  | 1 => 0xffffffff000000ff
  | 2 => 0x000000000000f0ff
  | 3 => 0xffffffff000000ff
  | 5 =>
    if op = 0x05 then 0xffffffff0000ffff
    else if op = 0x85 then 0x00000000ffffffff
    else if op = 0x95 then 0xffffffffffffffff
    else if isX then 0xffffffff000000ff else 0x000000000000f0ff
  | 6 => if op = 0x06 then 0x00000000ffffffff else if isX then 0xffffffff000000ff else 0x000000000000f0ff
  | _ =>
    if op.extractLsb' 4 4 = 8 ∨ op.extractLsb' 4 4 = 0xd then 0xfffffffffffff0ff
    else if isX then 0xffffffffffff00ff else 0x00000000fffff0ff

/-- The second mask of a row: for the wide opcode the subtype in src_reg decides whether next_imm is free (R348). -/
def valueMaskNext (value : BitVec 64) : Option (BitVec 64) :=
  if value.extractLsb' 0 8 = wideOpcode then
    if value.extractLsb' 12 4 = 0 ∨ value.extractLsb' 12 4 = 2 ∨ value.extractLsb' 12 4 = 6 then
      some 0x00000000ffffffff
    else some 0xffffffffffffffff
  else none

/-- Every row fixes the whole opcode byte, which decides the mask. -/
theorem row_mask_eq (i : Instr) : i.row.mask = opcodeMask (i.row.value.extractLsb' 0 8) := by
  cases i
  all_goals
    simp only [Instr.row]
    decide

theorem row_maskNext_eq (i : Instr) : i.row.maskNext = valueMaskNext i.row.value := by
  cases i
  all_goals
    simp only [Instr.row]
    decide

theorem opcodeMask_low (op : BitVec 8) : (opcodeMask op).extractLsb' 0 8 = BitVec.allOnes 8 := by
  unfold opcodeMask
  simp only
  split
  all_goals try split_ifs
  all_goals decide

theorem opcode_of_matches {i : Instr} {w : BitVec 64} (h : w &&& i.row.mask = i.row.value) :
    i.row.value.extractLsb' 0 8 = w.extractLsb' 0 8 := by
  have hmask : i.row.mask.extractLsb' 0 8 = BitVec.allOnes 8 := by rw [row_mask_eq, opcodeMask_low]
  rw [← h, BitVec.extractLsb'_and, hmask, BitVec.and_allOnes]

/-- Settles O7: rows that share a word share its opcode byte, so the mask, so the value under the mask, so the second
mask. -/
theorem rowsAreExclusive : Obligations.RowsAreExclusive := by
  unfold Obligations.RowsAreExclusive
  intro i j w hi hj
  have hmask : i.row.mask = j.row.mask := by
    rw [row_mask_eq i, row_mask_eq j, opcode_of_matches hi, opcode_of_matches hj]
  have hvalue : i.row.value = j.row.value := by rw [← hi, ← hj, hmask]
  have hnext : i.row.maskNext = j.row.maskNext := by rw [row_maskNext_eq i, row_maskNext_eq j, hvalue]
  cases hrow : i.row
  cases hrow' : j.row
  simp_all

end Sys2Proof.Laws
end

section
/-! What an instruction can do, said once for all instructions: the checks every meaning makes first, in their order
(60_exceptions.md R412), the effects an instruction can have and the faults it can raise. The statements about every
instruction and every step follow from it. -/

namespace Sys2Proof.Laws

open Sys2Proof.Machine Sys2Proof.Claims

/-! ### The checks before the effect -/

/-- The values of the given registers, read in order: the first without a value raises UninitRegister (R407). -/
def readAll (s : State) : List RegNum → Except FaultInfo (List Word)
  | [] => .ok []
  | r :: rest => do
    let v ← s.readReg r
    let vs ← readAll s rest
    return v :: vs

/-- The static checks, then the reads, then the rule `body` on the values read. -/
def guarded (s : State) (g : Group) (regs : List RegNum) (w : Option RegNum) (reads : List RegNum)
    (body : List Word → Result) : Result := do
  permit s g regs w
  let vs ← readAll s reads
  body vs

/-- Reading stops at the first register that holds no value. -/
theorem readAll_of_find {s : State} {r : RegNum} {reads : List RegNum}
    (h : reads.find? (fun q => (Regs.get s.regs q).isNone) = some r) :
    readAll s reads = .error (.uninitRegister r) := by
  induction reads with
  | nil => simp at h
  | cons q rest ih =>
    rw [readAll]
    cases hq : Regs.get s.regs q with
    | none =>
      obtain rfl : q = r := by simpa [hq] using h
      rw [State.readReg_error.mpr ⟨hq, rfl⟩]
      rfl
    | some v =>
      rw [State.readReg_ok.mpr hq, ok_bind, ih (by simpa [hq] using h)]
      rfl

/-- Reading registers raises UninitRegister only. -/
theorem readAll_error {s : State} {reads : List RegNum} {f : FaultInfo} (h : readAll s reads = .error f) :
    ∃ r, f = .uninitRegister r := by
  induction reads with
  | nil => exact nomatch h
  | cons q rest ih =>
    simp only [readAll, bind_error, State.readReg_error, return_eq_ok, reduceCtorEq, and_false, exists_false,
      or_false] at h
    obtain ⟨-, rfl⟩ | ⟨-, -, h⟩ := h
    · exact ⟨q, rfl⟩
    · exact ih h

section
variable {s : State} {g : Group} {regs : List RegNum} {w : Option RegNum} {reads : List RegNum}
  {body : List Word → Result}

theorem guarded_of_denied (h : mayRun s.cfg g regs w = false) :
    guarded s g regs w reads body = .error (.illegalInstruction s.pc) := by
  rw [guarded, permit_error.mpr ⟨h, rfl⟩]
  rfl

theorem guarded_of_permitted (h : mayRun s.cfg g regs w = true) :
    guarded s g regs w reads body = readAll s reads >>= body := by
  rw [guarded, (permit_ok (u := ())).mpr h]
  rfl

end

/-! ### Effects and faults -/

/-- The registers after an instruction: as before, or with the one register written that `i.writes` names, which is
x[10] only through the field `i.written`. -/
inductive RegsAfter (i : Instr) (x : Regs) : Regs → Prop where
  | same : RegsAfter i x x
  | set {d : RegNum} {v : Word} (writes : i.writes = [d]) (written : d ≠ 10 ∨ i.written = some d) :
      RegsAfter i x (Regs.set x d v)

/-- Memory after an instruction of the program's own: as before, or with a value stored by an allowed access. -/
inductive MemAfter (i : Instr) (s : State) : Memory → Prop where
  | same : MemAfter i s s.mem
  | stored {k : AccessKind} {ea : Word} {v : Word} (stores : i.storeSize ≠ 0)
      (access : accessCheck s.cfg k ea i.storeSize = .ok ()) :
      MemAfter i s (s.mem.writeValue s.cfg.endian ea.toNat i.storeSize v)

/-- The states an instruction that raises no fault can answer. -/
inductive Effect (i : Instr) (s : State) : State → Prop where
  | falls {x : Regs} {m : Memory} (flows : endsFlow i = false) (regs : RegsAfter i s.regs x) (mem : MemAfter i s m) :
      Effect i s { s with regs := x, mem := m, pc := s.pc + i.size }
  | jumps {D : Int} (distance : i.jumpDistance = some D) (target : validTarget s.program (s.target D) = true) :
      Effect i s { s with pc := (s.target D).toNat }
  | calls {imm : Imm} (call : i = .callLocal imm) (room : s.callstack.length < s.cfg.maxCallDepth)
      (target : validTarget s.program (s.target imm.toInt) = true) :
      Effect i s { s with callstack := s.callstack ++ [s.pc + 1], pc := (s.target imm.toInt).toNat }
  | leaves (exit : i = .exit) : Effect i s s.leave
  | helper {o : HelperOutcome} {t : State} (calls : i.callsHelper = true) (flows : endsFlow i = false)
      (size : i.size = 1) (after : s.afterHelper o = .ok t) : Effect i s t
  | packet {o : PacketOutcome} (group : i.group = .packet) (supplied : s.cfg.packetAccess = true) :
      Effect i s (s.afterPacket o)

/-- The faults an instruction that passes the static checks can raise: IllegalInstruction only as a stray second slot,
BadJumpTarget only of its own target, whatever a helper raises, and the faults that depend on the state. -/
inductive EffectFault (i : Instr) (s : State) : FaultInfo → Prop where
  | secondSlot (second : isSecondSlotInstr i = true) : EffectFault i s (.illegalInstruction s.pc)
  | target {D : Int} (distance : i.jumpDistance = some D) (target : validTarget s.program (s.target D) = false) :
      EffectFault i s (.badJumpTarget (s.target D))
  | helper {kind : HelperKind} {id : Imm} {f : FaultInfo} (supplied : (kind, id) ∈ s.cfg.helpers)
      (faults : Config.helper kind id s.cfg s.regs s.mem s.platform = .faults f) : EffectFault i s f
  | dynamic {f : FaultInfo} (dynamic : ¬ staticFault f) : EffectFault i s f

/-- The instruction makes its checks and then has one of the effects or raises one of the faults. -/
structure Performs (i : Instr) (s : State) (body : List Word → Result) : Prop where
  exec_eq : exec i s = finish s (guarded s i.group i.regFields i.written i.reads body)
  ok : ∀ vs t, body vs = .ok t → Effect i s t
  error : ∀ vs f, body vs = .error f → EffectFault i s f

/-! ### The shared operations as guarded rules -/

section
variable {i : Instr} {s : State} {g : Group} {d r : RegNum} {off : Offset} {src : Source} {n : Nat}

/-- The 32-bit source operand from the values read. -/
def value32 (src : Source) (vs : List Word) : Half :=
  match src with
  | .imm v => v
  | .reg _ => low32 (vs.headD 0)

/-- The 64-bit source operand from the values read. -/
def value64 (src : Source) (vs : List Word) : Word :=
  match src with
  | .imm v => sext64 v
  | .reg _ => vs.headD 0

theorem operand32_eq (src : Source) (s : State) :
    src.operand32 s = readAll s src.regFields >>= fun vs => .ok (value32 src vs) := by
  cases src with
  | imm v => rfl
  | reg r => simp [Source.operand32, Source.regFields, readAll, value32]

theorem operand64_eq (src : Source) (s : State) :
    src.operand64 s = readAll s src.regFields >>= fun vs => .ok (value64 src vs) := by
  cases src with
  | imm v => rfl
  | reg r =>
    simp only [Source.operand64, Source.regFields, readAll, value64]
    cases s.readReg r <;> rfl

/-- Register d receives a value computed from the values read, and pc advances by `n`. -/
def writeBody (s : State) (d : RegNum) (n : Nat) (value : List Word → Word) (vs : List Word) : Result :=
  .ok ((s.setReg d (value vs)).advance n)

theorem alu32_eq_guarded (op : Half → Half → Half) :
    alu32 g op d src s = finish s (guarded s g (d :: src.regFields) (some d) (d :: src.regFields)
      (writeBody s d 1 fun vs => zext64 (op (low32 (vs.headD 0)) (value32 src vs.tail)))) := by
  simp [alu32, guarded, readAll, writeBody, operand32_eq, bind_assoc]

theorem alu64_eq_guarded (op : Word → Word → Word) :
    alu64 g op d src s = finish s (guarded s g (d :: src.regFields) (some d) (d :: src.regFields)
      (writeBody s d 1 fun vs => op (vs.headD 0) (value64 src vs.tail))) := by
  simp [alu64, guarded, readAll, writeBody, operand64_eq, bind_assoc]

theorem move32_eq_guarded (op : Half → Half) :
    move32 g op d src s = finish s (guarded s g (d :: src.regFields) (some d) src.regFields
      (writeBody s d 1 fun vs => zext64 (op (value32 src vs)))) := by
  simp [move32, guarded, writeBody, operand32_eq, bind_assoc]

theorem move64_eq_guarded (op : Word → Word) :
    move64 g op d src s = finish s (guarded s g (d :: src.regFields) (some d) src.regFields
      (writeBody s d 1 fun vs => op (value64 src vs))) := by
  simp [move64, guarded, writeBody, operand64_eq, bind_assoc]

theorem unary_eq_guarded (op : Word → Word) :
    unary g op d s = finish s (guarded s g [d] (some d) [d] (writeBody s d 1 fun vs => op (vs.headD 0))) := by
  simp [unary, guarded, readAll, writeBody]

/-- An instruction that writes the register its field names, from the values read, performs that and advances. -/
theorem performs_write {value : List Word → Word}
    (hexec : exec i s = finish s (guarded s i.group i.regFields i.written i.reads (writeBody s d i.size value)))
    (hflows : endsFlow i = false) (hwrites : i.writes = [d]) (hwritten : i.written = some d) :
    Performs i s (writeBody s d i.size value) where
  exec_eq := hexec
  ok vs t h := by
    obtain rfl := Except.ok.inj h
    exact .falls hflows (.set hwrites (.inr hwritten)) .same
  error _ _ h := nomatch h

/-! #### Jumps, calls and EXIT -/

theorem jumpIf32_eq_guarded (cond : Half → Half → Bool) :
    jumpIf32 cond d src off s = finish s (guarded s .base32 (d :: src.regFields) none (d :: src.regFields)
      fun vs => s.branch (cond (low32 (vs.headD 0)) (value32 src vs.tail)) off) := by
  simp [jumpIf32, guarded, readAll, operand32_eq, bind_assoc]

theorem jumpIf64_eq_guarded (cond : Word → Word → Bool) :
    jumpIf64 cond d src off s = finish s (guarded s .base64 (d :: src.regFields) none (d :: src.regFields)
      fun vs => s.branch (cond (vs.headD 0) (value64 src vs.tail)) off) := by
  simp [jumpIf64, guarded, readAll, operand64_eq, bind_assoc]

/-- An instruction without register fields makes the static checks only. -/
theorem guarded_nil (body : Result) :
    guarded s g [] none [] (fun _ => body) = permit s g [] none >>= fun _ => body := by
  simp [guarded, readAll]

/-- A jump to the target of `i` has that effect or raises that fault. -/
theorem jump_effect {D : Int} {t : State} (hdistance : i.jumpDistance = some D) (h : s.jump D = .ok t) :
    Effect i s t := by
  obtain ⟨htarget, rfl⟩ := State.jump_ok.mp h
  exact .jumps hdistance htarget

theorem jump_fault {D : Int} {f : FaultInfo} (hdistance : i.jumpDistance = some D) (h : s.jump D = .error f) :
    EffectFault i s f := by
  obtain ⟨htarget, rfl⟩ := State.jump_error.mp h
  exact .target hdistance htarget

theorem performs_jump {D : Int}
    (hexec : exec i s = finish s (guarded s i.group i.regFields i.written i.reads fun _ => s.jump D))
    (hdistance : i.jumpDistance = some D) : Performs i s fun _ => s.jump D where
  exec_eq := hexec
  ok _ _ h := jump_effect hdistance h
  error _ _ h := jump_fault hdistance h

theorem performs_branch {taken : List Word → Bool}
    (hexec : exec i s = finish s (guarded s i.group i.regFields i.written i.reads fun vs => s.branch (taken vs) off))
    (hdistance : i.jumpDistance = some off.toInt) (hflows : endsFlow i = false) (hsize : i.size = 1) :
    Performs i s fun vs => s.branch (taken vs) off where
  exec_eq := hexec
  ok vs t h := by
    obtain ⟨-, h⟩ | ⟨-, rfl⟩ := State.branch_ok.mp h
    · exact jump_effect hdistance h
    · have hfalls := Effect.falls (s := s) hflows .same .same
      rwa [hsize] at hfalls
  error vs f h := jump_fault hdistance (State.branch_error.mp h).2

theorem performs_callLocal (imm : Imm) : Performs (.callLocal imm) s fun _ => s.call imm.toInt where
  exec_eq := congrArg (finish s) (guarded_nil _).symm
  ok _ t h := by
    obtain ⟨hroom, htarget, rfl⟩ := State.call_ok.mp h
    exact .calls rfl hroom htarget
  error _ f h := by
    obtain ⟨-, rfl⟩ | ⟨-, htarget, rfl⟩ := State.call_error.mp h
    · exact .dynamic (by simp [staticFault])
    · exact .target rfl htarget

theorem performs_exit : Performs .exit s fun _ => .ok s.leave where
  exec_eq := congrArg (finish s) (guarded_nil _).symm
  ok _ t h := by
    obtain rfl := Except.ok.inj h
    exact .leaves rfl
  error _ _ h := nomatch h

/-- What a helper call does after the static checks. -/
def helperBody (s : State) (kind : HelperKind) (id : Imm) : Result :=
  if (kind, id) ∈ s.cfg.helpers then s.afterHelper (Config.helper kind id s.cfg s.regs s.mem s.platform)
  else .error (.unknownHelper kind id)

theorem callPlatform_eq_guarded (kind : HelperKind) (id : Imm) :
    callPlatform kind id s = finish s (guarded s .base32 [] none [] fun _ => helperBody s kind id) := by
  rw [guarded_nil]
  rfl

/-- A helper's answer raises a fault only by being one. -/
theorem afterHelper_error {o : HelperOutcome} {f : FaultInfo} (h : s.afterHelper o = .error f) : o = .faults f := by
  cases o with
  | returns | ends => exact nomatch h
  | faults f' => rw [Except.error.inj h]

theorem performs_helper {kind : HelperKind} {id : Imm}
    (hexec : exec i s = finish s (guarded s i.group i.regFields i.written i.reads fun _ => helperBody s kind id))
    (hcalls : i.callsHelper = true) (hflows : endsFlow i = false) (hsize : i.size = 1) :
    Performs i s fun _ => helperBody s kind id where
  exec_eq := hexec
  ok _ t h := by
    unfold helperBody at h
    split at h
    · exact .helper hcalls hflows hsize h
    · exact nomatch h
  error _ f h := by
    unfold helperBody at h
    split at h
    case isTrue hsupplied => exact .helper hsupplied (afterHelper_error h)
    case isFalse =>
      obtain rfl := Except.error.inj h
      exact .dynamic (by simp [staticFault])

/-! #### Memory -/

theorem accessCheck_not_static {k : AccessKind} {ea : Word} {f : FaultInfo}
    (h : accessCheck s.cfg k ea n = .error f) : EffectFault i s f := by
  obtain ⟨-, rfl⟩ | ⟨-, -, rfl⟩ := accessCheck_error.mp h
  · exact .dynamic (by simp [staticFault])
  · exact .dynamic (by simp [staticFault])

/-- A load of `n` bytes after its base is read. -/
def loadBody (s : State) (n : Nat) (ext : Word → Word) (d : RegNum) (off : Offset) (vs : List Word) : Result := do
  let v ← s.memRead .load (effAddr (vs.headD 0) off) n
  return (s.setReg d (ext v)).advance 1

theorem loadMem_eq_guarded (ext : Word → Word) :
    loadMem g n ext d r off s = finish s (guarded s g [d, r] (some d) [r] (loadBody s n ext d off)) := by
  simp [loadMem, guarded, readAll, loadBody]

theorem performs_load {ext : Word → Word}
    (hexec : exec i s = finish s (guarded s i.group i.regFields i.written i.reads (loadBody s n ext d off)))
    (hflows : endsFlow i = false) (hwrites : i.writes = [d]) (hwritten : i.written = some d) (hsize : i.size = 1) :
    Performs i s (loadBody s n ext d off) where
  exec_eq := hexec
  ok vs t h := by
    simp only [loadBody, bind_ok, return_eq_ok, Except.ok.injEq] at h
    obtain ⟨v, -, rfl⟩ := h
    have hfalls := Effect.falls (s := s) hflows (.set (v := ext v) hwrites (.inr hwritten)) .same
    rwa [hsize] at hfalls
  error vs f h := by
    simp only [loadBody, bind_error, State.memRead_error, return_eq_ok, reduceCtorEq, and_false, exists_false,
      or_false] at h
    exact accessCheck_not_static h

/-- A store of `n` bytes after its base, and the register stored, are read. -/
def storeBody (s : State) (n : Nat) (off : Offset) (value : List Word → Word) (vs : List Word) : Result := do
  let after ← s.memWrite .store (effAddr (vs.headD 0) off) n (value vs)
  return after.advance 1

theorem storeImm_eq_guarded (imm : Imm) :
    storeImm g n d off imm s = finish s (guarded s g [d] none [d] (storeBody s n off fun _ => sext64 imm)) := by
  simp [storeImm, guarded, readAll, storeBody]

theorem storeReg_eq_guarded :
    storeReg g n d r off s =
      finish s (guarded s g [d, r] none [d, r] (storeBody s n off fun vs => vs.tail.headD 0)) := by
  simp [storeReg, guarded, readAll, storeBody]

theorem performs_store {value : List Word → Word}
    (hexec : exec i s = finish s (guarded s i.group i.regFields i.written i.reads (storeBody s n off value)))
    (hstores : i.storeSize = n) (hn : n ≠ 0) (hflows : endsFlow i = false) (hsize : i.size = 1) :
    Performs i s (storeBody s n off value) where
  exec_eq := hexec
  ok vs t h := by
    subst hstores
    simp only [storeBody, bind_ok, State.memWrite_ok, return_eq_ok, Except.ok.injEq] at h
    obtain ⟨_, ⟨haccess, rfl⟩, rfl⟩ := h
    have hfalls := Effect.falls (s := s) hflows .same (.stored (v := value vs) hn haccess)
    rwa [hsize] at hfalls
  error vs f h := by
    simp only [storeBody, bind_error, State.memWrite_error, return_eq_ok, reduceCtorEq, and_false, exists_false,
      or_false] at h
    exact accessCheck_not_static h

/-- The atomic update of the `n` bytes at x[d] + off with x[r], after both are read; `receives` names the register
that the old value goes to, if any. -/
def updateBody (s : State) (n : Nat) (op : Word → Word → Word) (off : Offset) (receives : Option RegNum)
    (vs : List Word) : Result := do
  let p ← s.update n op (effAddr (vs.headD 0) off) (lowBytes n (vs.tail.headD 0))
  match receives with
  | none => return p.2.advance 1
  | some q => return (p.2.setReg q p.1).advance 1

theorem atomicOp_eq_guarded (op : Word → Word → Word) :
    atomicOp g n op d r off s = finish s (guarded s g [d, r] none [d, r] (updateBody s n op off none)) := by
  simp [atomicOp, guarded, readAll, updateBody]

theorem atomicFetch_eq_guarded (op : Word → Word → Word) :
    atomicFetch g n op d r off s =
      finish s (guarded s g [d, r] (some r) [d, r] (updateBody s n op off (some r))) := by
  simp [atomicFetch, guarded, readAll, updateBody]

theorem update_error {op : Word → Word → Word} {ea v : Word} {f : FaultInfo} (h : s.update n op ea v = .error f) :
    accessCheck s.cfg .atomic ea n = .error f := by
  simp only [State.update, bind_error, State.memRead_error, State.memWrite_error, return_eq_ok, reduceCtorEq,
    and_false, exists_false, or_false] at h
  obtain h | ⟨_, _, h⟩ := h
  · exact h
  · exact h

theorem performs_update {op : Word → Word → Word} {receives : Option RegNum}
    (hexec : exec i s = finish s (guarded s i.group i.regFields i.written i.reads (updateBody s n op off receives)))
    (hreceives : ∀ q, receives = some q → i.writes = [q] ∧ i.written = some q)
    (hstores : i.storeSize = n) (hn : n ≠ 0) (hflows : endsFlow i = false) (hsize : i.size = 1) :
    Performs i s (updateBody s n op off receives) where
  exec_eq := hexec
  ok vs t h := by
    subst hstores
    simp only [updateBody, bind_ok, Prod.exists, State.update_ok] at h
    obtain ⟨old, _, ⟨haccess, -, rfl⟩, h⟩ := h
    have hmem : MemAfter i s _ :=
      .stored (v := op old (lowBytes i.storeSize (vs.tail.headD 0))) hn haccess
    cases receives with
    | none =>
      obtain rfl := Except.ok.inj h
      have hfalls := Effect.falls hflows .same hmem
      rwa [hsize] at hfalls
    | some q =>
      obtain rfl := Except.ok.inj h
      obtain ⟨hwrites, hwritten⟩ := hreceives q rfl
      have hfalls := Effect.falls hflows (.set (v := old) hwrites (.inr hwritten)) hmem
      rwa [hsize] at hfalls
  error vs f h := by
    simp only [updateBody, bind_error] at h
    obtain h | ⟨p, -, h⟩ := h
    · exact accessCheck_not_static (update_error h)
    · cases receives <;> exact nomatch h

/-- CMPXCHG after x[d], x[r] and x[0] are read. -/
def cmpxchgBody (s : State) (n : Nat) (off : Offset) (vs : List Word) : Result := do
  let old ← s.memRead .atomic (effAddr (vs.headD 0) off) n
  let after ← s.memWriteIf (old == lowBytes n (vs.tail.tail.headD 0)) (effAddr (vs.headD 0) off) n
    (lowBytes n (vs.tail.headD 0))
  return (after.setReg 0 old).advance 1

theorem atomicCmpxchg_eq_guarded :
    atomicCmpxchg g n d r off s = finish s (guarded s g [d, r] none [d, r, 0] (cmpxchgBody s n off)) := by
  simp [atomicCmpxchg, guarded, readAll, cmpxchgBody]

theorem memWriteIf_ok {b : Bool} {ea v : Word} {t : State} (h : s.memWriteIf b ea n v = .ok t) :
    t = s ∨ s.memWrite .atomic ea n v = .ok t := by
  cases b with
  | false => exact .inl (Except.ok.inj h).symm
  | true => exact .inr h

theorem memWriteIf_error {b : Bool} {ea v : Word} {f : FaultInfo} (h : s.memWriteIf b ea n v = .error f) :
    accessCheck s.cfg .atomic ea n = .error f := by
  cases b with
  | false => exact nomatch h
  | true => exact State.memWrite_error.mp h

theorem performs_cmpxchg
    (hexec : exec i s = finish s (guarded s i.group i.regFields i.written i.reads (cmpxchgBody s n off)))
    (hwrites : i.writes = [0]) (hstores : i.storeSize = n) (hn : n ≠ 0) (hflows : endsFlow i = false)
    (hsize : i.size = 1) : Performs i s (cmpxchgBody s n off) where
  exec_eq := hexec
  ok vs t h := by
    subst hstores
    simp only [cmpxchgBody, bind_ok, return_eq_ok, Except.ok.injEq] at h
    obtain ⟨old, -, after, hafter, rfl⟩ := h
    have hregs : RegsAfter i s.regs (Regs.set s.regs 0 old) := .set hwrites (.inl (by decide))
    obtain rfl | hafter := memWriteIf_ok hafter
    · have hfalls := Effect.falls hflows hregs .same
      rwa [hsize] at hfalls
    · obtain ⟨haccess, rfl⟩ := State.memWrite_ok.mp hafter
      have hfalls := Effect.falls hflows hregs (.stored (v := lowBytes i.storeSize (vs.tail.headD 0)) hn haccess)
      rwa [hsize] at hfalls
  error vs f h := by
    simp only [cmpxchgBody, bind_error, State.memRead_error, return_eq_ok, reduceCtorEq, and_false, exists_false,
      or_false] at h
    obtain h | ⟨_, -, h⟩ := h
    · exact accessCheck_not_static h
    · exact accessCheck_not_static (memWriteIf_error h)

/-! #### Immediate and packet loads -/

/-- A 64-bit immediate load whose value is `value`, if the platform has an answer. -/
def wideBody (s : State) (sub : BitVec 4) (imm : Imm) (value : Option Word) (d : RegNum) : Result :=
  match value with
  | some v => .ok ((s.setReg d v).advance 2)
  | none => .error (.platformRefused sub imm)

theorem loadWide_eq_guarded (sub : BitVec 4) (imm : Imm) (value : Option Word) :
    loadWide sub imm value d s =
      finish s (guarded s .base64 [d] (some d) [] fun _ => wideBody s sub imm value d) := by
  cases value <;> simp [loadWide, guarded, readAll, wideBody]

theorem performs_wide {sub : BitVec 4} {imm : Imm} {value : Option Word}
    (hexec : exec i s = finish s (guarded s i.group i.regFields i.written i.reads fun _ =>
      wideBody s sub imm value d))
    (hflows : endsFlow i = false) (hwrites : i.writes = [d]) (hwritten : i.written = some d) (hsize : i.size = 2) :
    Performs i s fun _ => wideBody s sub imm value d where
  exec_eq := hexec
  ok _ t h := by
    cases value with
    | none => exact nomatch h
    | some v =>
      obtain rfl := Except.ok.inj h
      have hfalls := Effect.falls (s := s) hflows (.set (v := v) hwrites (.inr hwritten)) .same
      rwa [hsize] at hfalls
  error _ f h := by
    cases value with
    | none =>
      obtain rfl := Except.error.inj h
      exact .dynamic (by simp [staticFault])
    | some v => exact nomatch h

theorem packetAbs_eq_guarded (imm : Imm) :
    packetAbs n imm s = finish s (guarded s .packet [] none [] fun _ => s.packetAccess .abs n none imm) := by
  rw [guarded_nil]
  rfl

theorem packetInd_eq_guarded (imm : Imm) :
    packetInd n r imm s =
      finish s (guarded s .packet [r] none [r] fun vs => s.packetAccess .ind n (some (vs.headD 0)) imm) := by
  simp [packetInd, guarded, readAll]

theorem performs_packet {mode : PacketMode} {value : List Word → Option Word} {imm : Imm}
    (hexec : exec i s = finish s (guarded s i.group i.regFields i.written i.reads fun vs =>
      s.packetAccess mode n (value vs) imm))
    (hgroup : i.group = .packet) : Performs i s fun vs => s.packetAccess mode n (value vs) imm where
  exec_eq := hexec
  ok vs t h := by
    obtain ⟨hsupplied, rfl⟩ := State.packetAccess_ok.mp h
    exact .packet hgroup hsupplied
  error vs f h := by
    unfold State.packetAccess at h
    split at h
    · exact nomatch h
    · obtain rfl := Except.error.inj h
      exact .dynamic (by simp [staticFault])

/-- The second slot of a wide instruction raises the fault of the static checks, whether it passes them or not. -/
theorem performs_wideSecondSlot (imm : Imm) :
    Performs (.wideSecondSlot imm) s fun _ => .error (.illegalInstruction s.pc) where
  exec_eq := by
    have hguarded : guarded s .base64 [] none [] (fun _ => .error (.illegalInstruction s.pc)) =
        .error (.illegalInstruction s.pc) := by
      rw [guarded_nil]
      cases hp : permit s .base64 [] none with
      | error f => rw [(permit_error.mp hp).2]; rfl
      | ok => rfl
    exact congrArg (finish s) hguarded.symm
  ok _ _ h := nomatch h
  error _ f h := by
    obtain rfl := Except.error.inj h
    exact .secondSlot rfl

end

/-! ### Every instruction -/

/-- Every instruction makes its checks and then has one of the effects, or raises one of the faults, of `Effect` and
`EffectFault`: each constructor is one of the shared operations. -/
theorem exec_performs (i : Instr) (s : State) : ∃ body, Performs i s body := by
  cases i with
  | addAluK d imm | subAluK d imm | mulAluK d imm | divAluK d imm | sdivAluK d imm | modAluK d imm | smodAluK d imm
  | orAluK d imm | andAluK d imm | xorAluK d imm | lshAluK d imm | rshAluK d imm | arshAluK d imm =>
    exact ⟨_, performs_write (alu32_eq_guarded (src := .imm imm) _) rfl rfl rfl⟩
  | addAluX d r | subAluX d r | mulAluX d r | divAluX d r | sdivAluX d r | modAluX d r | smodAluX d r
  | orAluX d r | andAluX d r | xorAluX d r | lshAluX d r | rshAluX d r | arshAluX d r =>
    exact ⟨_, performs_write (alu32_eq_guarded (src := .reg r) _) rfl rfl rfl⟩
  | addAlu64K d imm | subAlu64K d imm | mulAlu64K d imm | divAlu64K d imm | sdivAlu64K d imm | modAlu64K d imm
  | smodAlu64K d imm | orAlu64K d imm | andAlu64K d imm | xorAlu64K d imm | lshAlu64K d imm | rshAlu64K d imm
  | arshAlu64K d imm =>
    exact ⟨_, performs_write (alu64_eq_guarded (src := .imm imm) _) rfl rfl rfl⟩
  | addAlu64X d r | subAlu64X d r | mulAlu64X d r | divAlu64X d r | sdivAlu64X d r | modAlu64X d r
  | smodAlu64X d r | orAlu64X d r | andAlu64X d r | xorAlu64X d r | lshAlu64X d r | rshAlu64X d r | arshAlu64X d r =>
    exact ⟨_, performs_write (alu64_eq_guarded (src := .reg r) _) rfl rfl rfl⟩
  | movAluK d imm => exact ⟨_, performs_write (move32_eq_guarded (src := .imm imm) _) rfl rfl rfl⟩
  | movAluX d r | movsx8AluX d r | movsx16AluX d r =>
    exact ⟨_, performs_write (move32_eq_guarded (src := .reg r) _) rfl rfl rfl⟩
  | movAlu64K d imm => exact ⟨_, performs_write (move64_eq_guarded (src := .imm imm) _) rfl rfl rfl⟩
  | movAlu64X d r | movsx8Alu64X d r | movsx16Alu64X d r | movsx32Alu64X d r =>
    exact ⟨_, performs_write (move64_eq_guarded (src := .reg r) _) rfl rfl rfl⟩
  | negAlu d | negAlu64 d | endToLe16 d | endToLe32 d | endToLe64 d | endToBe16 d | endToBe32 d | endToBe64 d
  | bswap16 d | bswap32 d | bswap64 d =>
    exact ⟨_, performs_write (unary_eq_guarded _) rfl rfl rfl⟩
  | jaJmp off => exact ⟨_, performs_jump (congrArg (finish s) (guarded_nil _).symm) rfl⟩
  | jaJmp32 imm => exact ⟨_, performs_jump (congrArg (finish s) (guarded_nil _).symm) rfl⟩
  | jeqJmpK d off imm | jgtJmpK d off imm | jgeJmpK d off imm | jsetJmpK d off imm | jneJmpK d off imm
  | jsgtJmpK d off imm | jsgeJmpK d off imm | jltJmpK d off imm | jleJmpK d off imm | jsltJmpK d off imm
  | jsleJmpK d off imm =>
    exact ⟨_, performs_branch (jumpIf64_eq_guarded (src := .imm imm) _) rfl rfl rfl⟩
  | jeqJmpX d r off | jgtJmpX d r off | jgeJmpX d r off | jsetJmpX d r off | jneJmpX d r off | jsgtJmpX d r off
  | jsgeJmpX d r off | jltJmpX d r off | jleJmpX d r off | jsltJmpX d r off | jsleJmpX d r off =>
    exact ⟨_, performs_branch (jumpIf64_eq_guarded (src := .reg r) _) rfl rfl rfl⟩
  | jeqJmp32K d off imm | jgtJmp32K d off imm | jgeJmp32K d off imm | jsetJmp32K d off imm | jneJmp32K d off imm
  | jsgtJmp32K d off imm | jsgeJmp32K d off imm | jltJmp32K d off imm | jleJmp32K d off imm | jsltJmp32K d off imm
  | jsleJmp32K d off imm =>
    exact ⟨_, performs_branch (jumpIf32_eq_guarded (src := .imm imm) _) rfl rfl rfl⟩
  | jeqJmp32X d r off | jgtJmp32X d r off | jgeJmp32X d r off | jsetJmp32X d r off | jneJmp32X d r off
  | jsgtJmp32X d r off | jsgeJmp32X d r off | jltJmp32X d r off | jleJmp32X d r off | jsltJmp32X d r off
  | jsleJmp32X d r off =>
    exact ⟨_, performs_branch (jumpIf32_eq_guarded (src := .reg r) _) rfl rfl rfl⟩
  | callHelper imm => exact ⟨_, performs_helper (callPlatform_eq_guarded .staticId imm) rfl rfl rfl⟩
  | callHelperBtf imm => exact ⟨_, performs_helper (callPlatform_eq_guarded .btfId imm) rfl rfl rfl⟩
  | callLocal imm => exact ⟨_, performs_callLocal imm⟩
  | exit => exact ⟨_, performs_exit⟩
  | ldxMemB d r off | ldxMemH d r off | ldxMemW d r off | ldxMemDw d r off | ldxMemsxB d r off | ldxMemsxH d r off
  | ldxMemsxW d r off =>
    exact ⟨_, performs_load (loadMem_eq_guarded _) rfl rfl rfl rfl⟩
  | stMemB d off imm | stMemH d off imm | stMemW d off imm | stMemDw d off imm =>
    exact ⟨_, performs_store (storeImm_eq_guarded imm) rfl (by decide) rfl rfl⟩
  | stxMemB d r off | stxMemH d r off | stxMemW d r off | stxMemDw d r off =>
    exact ⟨_, performs_store storeReg_eq_guarded rfl (by decide) rfl rfl⟩
  | atomicAddW d r off | atomicOrW d r off | atomicAndW d r off | atomicXorW d r off
  | atomicAddDw d r off | atomicOrDw d r off | atomicAndDw d r off | atomicXorDw d r off =>
    exact ⟨_, performs_update (atomicOp_eq_guarded _) (fun _ h => nomatch h) rfl (by decide) rfl rfl⟩
  | atomicFetchAddW d r off | atomicFetchOrW d r off | atomicFetchAndW d r off | atomicFetchXorW d r off
  | atomicXchgW d r off | atomicFetchAddDw d r off | atomicFetchOrDw d r off | atomicFetchAndDw d r off
  | atomicFetchXorDw d r off | atomicXchgDw d r off =>
    exact ⟨_, performs_update (atomicFetch_eq_guarded _) (fun _ h => Option.some.inj h ▸ ⟨rfl, rfl⟩) rfl (by decide)
      rfl rfl⟩
  | atomicCmpxchgW d r off | atomicCmpxchgDw d r off =>
    exact ⟨_, performs_cmpxchg atomicCmpxchg_eq_guarded rfl rfl (by decide) rfl rfl⟩
  | ldImm64 d imm nextImm =>
    have hexec := loadWide_eq_guarded (s := s) (d := d) 0 imm (some ((zext64 nextImm <<< 32) ||| zext64 imm))
    exact ⟨_, performs_wide hexec rfl rfl rfl rfl⟩
  | ldMapByFd d imm | ldMapValByFd d imm nextImm | ldVarAddr d imm | ldCodeAddr d imm
  | ldMapByIdx d imm | ldMapValByIdx d imm nextImm =>
    exact ⟨_, performs_wide (loadWide_eq_guarded _ _ _) rfl rfl rfl rfl⟩
  | wideSecondSlot imm => exact ⟨_, performs_wideSecondSlot imm⟩
  | ldAbsW imm | ldAbsH imm | ldAbsB imm => exact ⟨_, performs_packet (packetAbs_eq_guarded imm) rfl⟩
  | ldIndW r imm | ldIndH r imm | ldIndB r imm => exact ⟨_, performs_packet (packetInd_eq_guarded imm) rfl⟩

/-! ### What the next state can be -/

/-- Raising a fault, as the statements write it. -/
theorem raises_iff {i : Instr} {s : State} {f : FaultInfo} : Raises i s f ↔ exec i s = .next (raise f s) := Iff.rfl

/-- An instruction that fails a static check raises IllegalInstruction(pc). -/
theorem raises_of_denied {i : Instr} {s : State} (h : instrPermitted s.cfg i = false) :
    Raises i s (.illegalInstruction s.pc) := by
  obtain ⟨body, hi⟩ := exec_performs i s
  rw [raises_iff, hi.exec_eq, guarded_of_denied h, finish_error]

/-- What the next state of an instruction is: an effect, if it passes the static checks, or a fault raised. -/
theorem exec_cases {i : Instr} {s t : State} (h : exec i s = .next t) :
    (instrPermitted s.cfg i = true ∧ Effect i s t) ∨
    ∃ f, t = raise f s ∧
      ((instrPermitted s.cfg i = false ∧ f = .illegalInstruction s.pc) ∨
        (instrPermitted s.cfg i = true ∧ EffectFault i s f)) := by
  cases hpermitted : instrPermitted s.cfg i with
  | false =>
    have hnext := (raises_iff.mp (raises_of_denied hpermitted)).symm.trans h
    exact .inr ⟨_, (Host.Outcome.next.inj hnext).symm, .inl ⟨rfl, rfl⟩⟩
  | true =>
    obtain ⟨body, hi⟩ := exec_performs i s
    rw [hi.exec_eq, guarded_of_permitted hpermitted] at h
    obtain hok | ⟨f, herror, ht⟩ := finish_cases h
    · obtain ⟨vs, -, hbody⟩ := bind_ok.mp hok
      exact .inl ⟨rfl, hi.ok vs t hbody⟩
    · refine .inr ⟨f, ht, .inr ⟨rfl, ?_⟩⟩
      obtain hread | ⟨vs, -, hbody⟩ := bind_error.mp herror
      · obtain ⟨r, rfl⟩ := readAll_error hread
        exact .dynamic (by simp [staticFault])
      · exact hi.error vs f hbody

/-- What the next state of a step is: the fetch raises a fault, or the decoded instruction is executed. -/
theorem step_cases {s t : State} (h : step s = .next t) :
    s.status = .running ∧
      ((∃ f, s.fetch = .error f ∧ t = raise f s) ∨ ∃ i, s.fetch = .ok i ∧ exec i s = .next t) := by
  unfold step at h
  cases hstatus : s.status with
  | exited | faulted => rw [hstatus] at h; exact nomatch h
  | running =>
    rw [hstatus] at h
    refine ⟨rfl, ?_⟩
    cases hfetch : s.fetch with
    | error f =>
      simp only [hfetch] at h
      exact .inl ⟨f, rfl, (Host.Outcome.next.inj h).symm⟩
    | ok i =>
      simp only [hfetch] at h
      exact .inr ⟨i, rfl, h⟩

/-- The fetch answers an instruction exactly where a first slot decodes. -/
theorem fetch_ok {s : State} {i : Instr} :
    s.fetch = .ok i ↔ s.pc < s.program.length ∧ isSecondSlot s.program s.pc = false ∧
      decode s.cfg.endian (s.program.drop s.pc) = .ok i := by
  unfold State.fetch
  split
  · simp; omega
  · split
    · simp_all
    · cases hdecode : decode s.cfg.endian (s.program.drop s.pc) <;> simp_all

/-! ### Statements about a step -/

/-- Settles O12: fetch answers the decoded instruction, which step executes. -/
theorem stepRunsDecodedInstruction : Obligations.StepRunsDecodedInstruction := by
  unfold Obligations.StepRunsDecodedInstruction
  intro s i hrunning hpc hfirst hdecode
  have hfetch := fetch_ok.mpr ⟨hpc, hfirst, hdecode⟩
  simp only [step, hrunning, hfetch]

/-- A fault of the fetch is the outcome of the step. -/
theorem step_of_fetch_error {s : State} {f : FaultInfo} (hrunning : s.status = .running) (hfetch : s.fetch = .error f) :
    step s = .next (raise f s) := by
  simp only [step, hrunning, hfetch]

/-- A first slot of the program that decodes to nothing is an illegal instruction. -/
theorem fetch_of_decode_error {s : State} {x : DecodeError} (hpc : s.pc < s.program.length)
    (hfirst : isSecondSlot s.program s.pc = false) (hdecode : decode s.cfg.endian (s.program.drop s.pc) = .error x) :
    s.fetch = .error (.illegalInstruction s.pc) := by
  simp [State.fetch, hfirst, hdecode]
  omega

/-- Settles O13: each clause is a branch of the fetch. -/
theorem fetchFaults : Obligations.FetchFaults := by
  unfold Obligations.FetchFaults
  intro s hrunning
  refine ⟨fun hpc => ?past, fun hpc hsecond => ?second, fun x hpc hfirst hdecode => ?undefined⟩
  case past => exact step_of_fetch_error hrunning (by simp [State.fetch, hpc])
  case second =>
    refine step_of_fetch_error hrunning ?_
    simp [State.fetch, hsecond]
    omega
  case undefined => exact step_of_fetch_error hrunning (fetch_of_decode_error hpc hfirst hdecode)

/-- Settles O14: step looks at the status first. -/
theorem endedRunHasNoStep : Obligations.EndedRunHasNoStep := by
  unfold Obligations.EndedRunHasNoStep
  exact fun s => ⟨fun h => by simp only [step, h], fun f h => by simp only [step, h], fun t h => (step_cases h).1⟩

/-- An effect other than a packet load's leaves the run Running or Exited, as it was, or ends it. -/
theorem Effect.status {i : Instr} {s t : State} (h : Effect i s t)
    (hpacket : i.group = .packet → s.cfg.packetAccess = false) :
    t.status = s.status ∨ t.status = .exited := by
  cases h with
  | falls | jumps | calls => exact .inl rfl
  | leaves hexit =>
    unfold State.leave
    split
    · exact .inr rfl
    · exact .inl rfl
  | helper _ _ _ hafter =>
    obtain ⟨-, -, -, -, ⟨hstatus, -⟩ | hstatus⟩ := State.afterHelper_frame hafter
    · exact .inl hstatus
    · exact .inr hstatus
  | packet hgroup hsupplied => exact absurd hsupplied (by simp [hpacket hgroup])

/-- The group of an instruction that may run is supported. -/
theorem has_group_of_permitted {cfg : Config} {i : Instr} (h : instrPermitted cfg i = true) :
    Groups.has cfg.groups i.group = true := (mayRun_iff.mp h).1

/-- Settles O15: an effect never sets the status Faulted, so a Faulted state is one with a fault raised. -/
theorem faultChangesOnlyStatus : Obligations.FaultChangesOnlyStatus := by
  unfold Obligations.FaultChangesOnlyStatus
  intro s t f hpacket hstep hfault
  have hraised : ∀ g, t = raise g s → t = raise f s := by
    rintro g rfl
    rw [RunStatus.faulted.inj hfault]
  obtain ⟨hrunning, ⟨g, -, ht⟩ | ⟨i, hfetch, hexec⟩⟩ := step_cases hstep
  · exact hraised g ht
  · obtain ⟨hpermitted, heffect⟩ | ⟨g, ht, -⟩ := exec_cases hexec
    · have hsupplied : i.group = .packet → s.cfg.packetAccess = false := fun hgroup => by
        have hgroups := has_group_of_permitted hpermitted
        rw [hgroup] at hgroups
        exact hpacket i (fetch_ok.mp hfetch).2.2 hgroup hgroups
      obtain hstatus | hstatus := heffect.status hsupplied
      · exact nomatch hfault.symm.trans (hstatus.trans hrunning)
      · exact nomatch hfault.symm.trans hstatus
    · exact hraised g ht

/-- No effect changes the program or the parameters. -/
theorem Effect.fixed {i : Instr} {s t : State} (h : Effect i s t) : t.program = s.program ∧ t.cfg = s.cfg := by
  cases h with
  | falls | jumps | calls | packet => exact ⟨rfl, rfl⟩
  | leaves => unfold State.leave; split <;> exact ⟨rfl, rfl⟩
  | helper _ _ _ hafter =>
    obtain ⟨-, hprogram, hcfg, -⟩ := State.afterHelper_frame hafter
    exact ⟨hprogram, hcfg⟩

/-- Settles O16: neither an effect nor a fault changes them. -/
theorem programAndParametersFixed : Obligations.ProgramAndParametersFixed := by
  unfold Obligations.ProgramAndParametersFixed
  intro s t hstep
  obtain ⟨-, ⟨f, -, rfl⟩ | ⟨i, -, hexec⟩⟩ := step_cases hstep
  · exact ⟨rfl, rfl⟩
  · obtain ⟨-, heffect⟩ | ⟨f, rfl, -⟩ := exec_cases hexec
    · exact heffect.fixed
    · exact ⟨rfl, rfl⟩

/-- Settles O17: an unsupported group fails the static checks, and an undefined encoding the fetch. -/
theorem unsupportedGroupIsIllegal : Obligations.UnsupportedGroupIsIllegal := by
  unfold Obligations.UnsupportedGroupIsIllegal
  refine ⟨fun s i hrunning hpc hfirst hdecode hgroup => ?_, fun s x hrunning hpc hfirst hdecode =>
    step_of_fetch_error hrunning (fetch_of_decode_error hpc hfirst hdecode)⟩
  rw [stepRunsDecodedInstruction s i hrunning hpc hfirst hdecode]
  exact raises_of_denied (by simp [instrPermitted, mayRun, hgroup])

/-! ### Statements about every instruction -/

/-- Settles O60: a stray second slot raises the fault before and after the static checks. -/
theorem secondSlotIsIllegal : Obligations.SecondSlotIsIllegal := by
  unfold Obligations.SecondSlotIsIllegal
  exact fun s imm => finish_error s (.illegalInstruction s.pc)

/-- Settles O18: both conditions fail a static check. -/
theorem registerFieldChecks : Obligations.RegisterFieldChecks := by
  unfold Obligations.RegisterFieldChecks
  refine fun s i => ⟨fun hwf => raises_of_denied ?_, fun hro hwritten => raises_of_denied ?_⟩
  · rw [Instr.wf] at hwf
    simp [instrPermitted, mayRun, hwf]
  · simp [instrPermitted, mayRun, hro, hwritten]

/-- Settles O19: past the static checks the registers are read in order before anything else. -/
theorem uninitRegister : Obligations.UninitRegister := by
  unfold Obligations.UninitRegister
  intro s i r hrun hfirst
  obtain ⟨body, hi⟩ := exec_performs i s
  rw [raises_iff, hi.exec_eq, guarded_of_permitted (mayRun_of_MayRun hrun), readAll_of_find hfirst, error_bind,
    finish_error]

theorem writes_length_le (i : Instr) : i.writes.length ≤ 1 := by
  cases i
  all_goals simp [Instr.writes]

/-- The registers after an instruction of the program's own; one that is written has passed the static checks. -/
theorem exec_regs {i : Instr} {s t : State} (h : exec i s = .next t) (hown : ¬ IsPlatforms i) :
    RegsAfter i s.regs t.regs ∧ (t.regs = s.regs ∨ instrPermitted s.cfg i = true) := by
  rw [not_or] at hown
  obtain ⟨hcalls, hgroup⟩ := hown
  obtain ⟨hpermitted, heffect⟩ | ⟨f, rfl, -⟩ := exec_cases h
  · refine ⟨?_, .inr hpermitted⟩
    cases heffect with
    | falls _ hregs => exact hregs
    | jumps | calls => exact .same
    | leaves => unfold State.leave; split <;> exact .same
    | helper hhelper => exact absurd hhelper hcalls
    | packet hpacket => exact absurd hpacket hgroup
  · exact ⟨.same, .inl rfl⟩

/-- Reading a register that the instruction's rule does not name. -/
theorem RegsAfter.get_other {i : Instr} {x y : Regs} (h : RegsAfter i x y) {r : RegNum} (hr : r ∉ i.writes) :
    Regs.get y r = Regs.get x r := by
  cases h with
  | same => rfl
  | set hwrites => exact Regs.get_set_other x _ (by simpa [hwrites] using hr)

/-- A register that held a value holds one: a write only adds values. -/
theorem RegsAfter.get_ne_none {i : Instr} {x y : Regs} (h : RegsAfter i x y) {r : RegNum} (hr : Regs.get x r ≠ none) :
    Regs.get y r ≠ none := by
  cases h with
  | same => exact hr
  | @set d v =>
    cases hd : isRegister d with
    | false => rwa [Regs.set_not_register x v hd]
    | true =>
      rw [Regs.get_set x r v hd]
      split
      · exact Option.some_ne_none v
      · exact hr

/-- x[10] is written only through the field that names the written register. -/
theorem RegsAfter.get_ten {i : Instr} {x y : Regs} (h : RegsAfter i x y) (hwritten : i.written ≠ some 10) :
    Regs.get y 10 = Regs.get x 10 := by
  cases h with
  | same => rfl
  | @set d v _ hd =>
    refine Regs.get_set_other x v fun h10 => ?_
    subst h10
    obtain hd | hd := hd
    · exact hd rfl
    · exact hwritten hd

/-- Settles O20: the registers are as before, or the one register that the instruction's rule names is written. -/
theorem onlyWrittenRegisterChanges : Obligations.OnlyWrittenRegisterChanges := by
  unfold Obligations.OnlyWrittenRegisterChanges
  exact fun s t i hexec hown => ⟨writes_length_le i, fun r hr => (exec_regs hexec hown).1.get_other hr⟩

/-- Settles O23: no instruction of the program's own takes a register's value away. -/
theorem registersKeepValues : Obligations.RegistersKeepValues := by
  unfold Obligations.RegistersKeepValues
  exact fun s t i r hexec hown hr => (exec_regs hexec hown).1.get_ne_none hr

/-- Settles O24: x[10] is written only through a field that holds 10, which the static checks refuse. -/
theorem readOnlyR10 : Obligations.ReadOnlyR10 := by
  unfold Obligations.ReadOnlyR10
  intro s t i hro hexec hown
  obtain ⟨hregs, hsame | hpermitted⟩ := exec_regs hexec hown
  · rw [hsame]
  · exact hregs.get_ten fun hwritten => (mayRun_iff.mp hpermitted).2.2 ⟨hro, hwritten⟩

/-- Settles O21: memory changes only by an access of the instruction's own, of a size that is not 0. -/
theorem nonStoringFormsKeepMemory : Obligations.NonStoringFormsKeepMemory := by
  unfold Obligations.NonStoringFormsKeepMemory
  intro s t i hexec hown hsize
  rw [not_or] at hown
  obtain ⟨hcalls, hgroup⟩ := hown
  have hmem : t.mem = s.mem := by
    obtain ⟨-, heffect⟩ | ⟨f, rfl, -⟩ := exec_cases hexec
    · cases heffect with
      | falls _ _ hmem =>
        cases hmem with
        | same => rfl
        | stored hstores => exact absurd hsize hstores
      | jumps | calls => rfl
      | leaves => unfold State.leave; split <;> rfl
      | helper hhelper => exact absurd hhelper hcalls
      | packet hpacket => exact absurd hpacket hgroup
    · rfl
  exact ⟨hmem, fun a => by rw [hmem]⟩

/-- What EXIT does to the call stack. -/
theorem leave_cases (s : State) :
    (s.callstack = [] ∧ s.leave = { s with status := .exited }) ∨
      ∃ cs k, s.callstack = cs ++ [k] ∧ s.leave = { s with callstack := cs, pc := k } := by
  obtain hnil | ⟨cs, k, hcons⟩ := s.callstack.eq_nil_or_concat
  · exact .inl ⟨hnil, State.leave_empty hnil⟩
  · rw [List.concat_eq_append] at hcons
    exact .inr ⟨cs, k, hcons, State.leave_push hcons⟩

/-- Settles O22: of the effects only a call and a return change the call stack. -/
theorem callStackOnlyByCallAndExit : Obligations.CallStackOnlyByCallAndExit := by
  unfold Obligations.CallStackOnlyByCallAndExit
  intro s t i hexec
  obtain ⟨-, heffect⟩ | ⟨f, rfl, -⟩ := exec_cases hexec
  · cases heffect with
    | falls | jumps | packet => exact .inl rfl
    | calls hcall => exact .inr (.inl ⟨⟨_, hcall⟩, rfl, rfl⟩)
    | leaves hexit =>
      obtain ⟨-, hleave⟩ | ⟨cs, k, hstack, hleave⟩ := leave_cases s
      · exact .inl (by rw [hleave])
      · exact .inr (.inr ⟨hexit, by rw [hleave, hstack], by rw [hleave]⟩)
    | helper _ _ _ hafter => exact .inl (State.afterHelper_frame hafter).1
  · exact .inl rfl

end Sys2Proof.Laws
end

section
/-! The invariant (10_state.md section 3) and the static predicate (60_exceptions.md R418): where pc and the return slots
can stand, and what memory can list. -/

namespace Sys2Proof.Laws

open Sys2Proof.Machine Sys2Proof.Claims

/-! ### The scan for second slots (43_jump.md R202) -/

/-- Whether the slot after slot `k` is a second slot depends on slot `k` alone. -/
theorem secondSlots_getD_succ (second : Bool) (p : List Slot) {k : Nat} {before : Slot} (hlt : k + 1 < p.length)
    (hbefore : p[k]? = some before) :
    (secondSlots second p).getD (k + 1) false = (!(secondSlots second p).getD k false && before.b0 == 0x18) := by
  induction p generalizing second k with
  | nil => simp at hlt
  | cons sl rest ih =>
    cases k with
    | succ k => exact ih _ (by simpa using hlt) (by simpa using hbefore)
    | zero =>
      obtain rfl : sl = before := by simpa using hbefore
      cases rest with
      | nil => simp at hlt
      | cons next tail => rfl

/-- Settles O25: the scan starts with a first slot and goes on by its recurrence. -/
theorem secondSlotScan : Obligations.SecondSlotScan := by
  unfold Obligations.SecondSlotScan
  refine fun p => ⟨?_, fun k before hlt hbefore => ?_⟩
  · cases p <;> rfl
  · simp only [isSecondSlot, secondSlots_getD_succ false p hlt hbefore, Bool.and_eq_true, Bool.not_eq_true', beq_iff_eq]
    exact and_comm

theorem secondSlots_length (second : Bool) (p : List Slot) : (secondSlots second p).length = p.length := by
  induction p generalizing second with
  | nil => rfl
  | cons sl rest ih => simp [secondSlots, ih]

/-- No slot past the end is a second slot. -/
theorem isSecondSlot_of_length_le {p : List Slot} {k : Nat} (h : p.length ≤ k) : isSecondSlot p k = false := by
  rw [isSecondSlot, List.getD_eq_default]
  rwa [secondSlots_length]

/-- After a slot that does not open a wide instruction, or that is itself a second slot, comes a first slot. -/
theorem isSecondSlot_succ {p : List Slot} {k : Nat} {before : Slot} (hbefore : p[k]? = some before)
    (h : before.b0 ≠ 0x18 ∨ isSecondSlot p k = true) : isSecondSlot p (k + 1) = false := by
  by_cases hlt : k + 1 < p.length
  · have hscan := (secondSlotScan p).2 k before hlt hbefore
    rw [Bool.eq_false_iff]
    intro hsecond
    obtain ⟨hopcode, hfirst⟩ := hscan.mp hsecond
    obtain h | h := h
    · exact h hopcode
    · exact Bool.false_ne_true (hfirst.symm.trans h)
  · exact isSecondSlot_of_length_le (by omega)

/-! ### The slot after an instruction -/

theorem fields_opcode (e : Endian) (sl : Slot) : (sl.fields e).opcode = sl.b0 := by cases e <;> rfl

theorem getElem?_of_drop_eq_cons {p rest : List Slot} {k : Nat} {sl : Slot} (h : p.drop k = sl :: rest) :
    p[k]? = some sl := by
  have hhead : (p.drop k)[0]? = some sl := by rw [h]; rfl
  simpa using hhead

/-- The slots of an instruction decoded at a first slot: one, or two of which the other is a second slot; after them
comes a first slot or the end of the program. -/
theorem decode_next {e : Endian} {p : List Slot} {k : Nat} {i : Instr} (hfirst : isSecondSlot p k = false)
    (hdecode : decode e (p.drop k) = .ok i) :
    reachableSlot p (k + i.size) ∧ (i.size = 1 ∨ i.size = 2 ∧ isSecondSlot p (k + 1) = true) := by
  obtain ⟨sl, rest, hslots, hop, hi⟩ | ⟨sl, second, rest, hslots, hop, hi⟩ := decode_cases hdecode
  · have hlength := congrArg List.length hslots
    have hsl := getElem?_of_drop_eq_cons hslots
    have hsize : i.size = 1 := by simp [Instr.size, hi.secondImm_eq]
    rw [fields_opcode] at hop
    rw [List.length_drop, List.length_cons] at hlength
    rw [hsize]
    exact ⟨⟨by omega, isSecondSlot_succ hsl (.inl hop)⟩, .inl rfl⟩
  · have hlength := congrArg List.length hslots
    have hsl := getElem?_of_drop_eq_cons hslots
    have hsize : i.size = 2 := by simp [Instr.size, hi.secondImm_eq]
    rw [fields_opcode] at hop
    simp only [List.length_drop, List.length_cons] at hlength
    have hsecond : isSecondSlot p (k + 1) = true :=
      ((secondSlotScan p).2 k sl (by omega) hsl).mpr ⟨hop, hfirst⟩
    have hnext : p[k + 1]? = some second := by
      have hget : (p.drop k)[1]? = some second := by rw [hslots]; rfl
      simpa using hget
    rw [hsize]
    exact ⟨⟨by omega, isSecondSlot_succ hnext (.inr hsecond)⟩, .inr ⟨rfl, hsecond⟩⟩

/-! ### Effects keep slots and memory within bounds -/

/-- Wherever an effect takes pc, and whatever it puts on the call stack: if `P` holds of the slot after the
instruction, of every valid target and of every return slot, then it holds of the next pc and the next return
slots. -/
theorem Effect.slots {P : Nat → Prop} {i : Instr} {s t : State} (h : Effect i s t)
    (hnext : endsFlow i = false → P (s.pc + i.size))
    (htarget : ∀ z : Int, validTarget s.program z = true → P z.toNat) (hreturns : ∀ k ∈ s.callstack, P k) :
    (∀ k ∈ t.callstack, P k) ∧
      (t.status = .running → (i.group = .packet → s.cfg.packetAccess = false) → P t.pc) := by
  cases h with
  | falls hflows => exact ⟨hreturns, fun _ _ => hnext hflows⟩
  | jumps _ hvalid => exact ⟨hreturns, fun _ _ => htarget _ hvalid⟩
  | calls hcall _ hvalid =>
    subst hcall
    refine ⟨fun k hk => ?_, fun _ _ => htarget _ hvalid⟩
    obtain hk | hk := List.mem_append.mp hk
    · exact hreturns k hk
    · rw [List.mem_singleton.mp hk]
      exact hnext rfl
  | leaves =>
    obtain ⟨hstack, hleave⟩ | ⟨cs, k, hstack, hleave⟩ := leave_cases s
    · rw [hleave]
      exact ⟨hreturns, fun hrunning => nomatch hrunning⟩
    · rw [hleave]
      rw [hstack] at hreturns
      exact ⟨fun q hq => hreturns q (List.mem_append_left _ hq), fun _ _ => hreturns k (by simp)⟩
  | helper _ hflows hsize hafter =>
    obtain ⟨hstack, -, -, -, hend⟩ := State.afterHelper_frame hafter
    rw [hstack]
    refine ⟨hreturns, fun hrunning _ => ?_⟩
    obtain ⟨-, hpc⟩ | hexited := hend
    · rw [hpc, ← hsize]
      exact hnext hflows
    · exact nomatch hrunning.symm.trans hexited
  | packet hgroup hsupplied =>
    exact ⟨hreturns, fun _ hpacket => nomatch hsupplied.symm.trans (hpacket hgroup)⟩

/-- Memory is canonical and lists only bytes of the regions. -/
def MemInBounds (regions : List Region) (m : Memory) : Prop :=
  m.wf = true ∧ ∀ c ∈ m, byteExists regions c.1 = true

/-- Writes to bytes that exist keep memory within its bounds. -/
theorem applyWrites_inBounds {regions : List Region} {m : Memory} (hm : MemInBounds regions m) {ok : Nat → Bool}
    (hok : ∀ a, ok a = true → byteExists regions a = true) (ws : List Host.Cell) :
    MemInBounds regions (applyWrites ok m ws) := by
  refine ⟨applyWrites_wf ok hm.1 ws, fun c hc => ?_⟩
  obtain hc | hc := mem_applyWrites ok hc
  · exact hm.2 c hc
  · exact hok c.1 hc

/-- An allowed access keeps memory within its bounds. -/
theorem MemAfter.inBounds {i : Instr} {s : State} {m : Memory} (h : MemAfter i s m)
    (hm : MemInBounds s.cfg.regions s.mem) : MemInBounds s.cfg.regions m := by
  cases h with
  | same => exact hm
  | stored hstores haccess =>
    refine ⟨Memory.writeValue_wf hm.1 _ _ _ _, fun c hc => ?_⟩
    obtain hc | ⟨hlow, hhigh⟩ := Memory.mem_writeBytes hc
    · exact hm.2 c hc
    · rw [hostOrder_length, toBytes_length] at hhigh
      exact byteExists_of_allowed (accessCheck_ok.mp haccess).1.2 hlow hhigh

theorem Effect.inBounds {i : Instr} {s t : State} (h : Effect i s t) (hm : MemInBounds s.cfg.regions s.mem) :
    MemInBounds s.cfg.regions t.mem := by
  cases h with
  | falls _ _ hmem => exact hmem.inBounds hm
  | jumps | calls => exact hm
  | leaves => unfold State.leave; split <;> exact hm
  | helper _ _ _ hafter =>
    obtain ⟨-, -, -, ⟨ws, hmem⟩, -⟩ := State.afterHelper_frame hafter
    rw [hmem]
    exact applyWrites_inBounds hm (fun a ha => byteExists_of_allowed ha le_rfl (by omega)) ws
  | packet => exact applyWrites_inBounds hm (fun _ ha => ha) _

/-- Only a call deepens the call stack, and only where there is room. -/
theorem Effect.depth {i : Instr} {s t : State} (h : Effect i s t) (hdepth : s.callstack.length ≤ s.cfg.maxCallDepth) :
    t.callstack.length ≤ s.cfg.maxCallDepth := by
  cases h with
  | falls | jumps | packet => exact hdepth
  | calls _ hroom => simpa using hroom
  | leaves =>
    obtain ⟨-, hleave⟩ | ⟨cs, k, hstack, hleave⟩ := leave_cases s
    · rwa [hleave]
    · rw [hleave]
      rw [hstack, List.length_append] at hdepth
      exact le_of_add_le_left hdepth
  | helper _ _ _ hafter => rwa [(State.afterHelper_frame hafter).1]

/-! ### The invariant -/

theorem reachableSlot_of_validTarget {p : List Slot} {z : Int} (h : validTarget p z = true) :
    reachableSlot p z.toNat ∧ z.toNat < p.length := by
  simp only [validTarget, Bool.and_eq_true, decide_eq_true_eq, Bool.not_eq_true'] at h
  obtain ⟨⟨hnonneg, hlt⟩, hfirst⟩ := h
  exact ⟨⟨by omega, hfirst⟩, by omega⟩

/-- A fault ends the run, and leaves everything else as the invariant has it. -/
theorem inv_raise {s : State} (h : Inv s) (f : FaultInfo) : Inv (raise f s) where
  mem_wf := h.mem_wf
  mem_exists := h.mem_exists
  depth := h.depth
  returns := h.returns
  pc hrunning := nomatch hrunning

/-- Settles O28: a fetched instruction stands at a first slot, whose effect keeps slots, memory and depth within
bounds. -/
theorem stepKeepsInv : Obligations.StepKeepsInv := by
  unfold Obligations.StepKeepsInv
  intro s t hinv hstep
  obtain ⟨hrunning, ⟨f, -, rfl⟩ | ⟨i, hfetch, hexec⟩⟩ := step_cases hstep
  · exact inv_raise hinv f
  · obtain ⟨-, heffect⟩ | ⟨f, rfl, -⟩ := exec_cases hexec
    · obtain ⟨-, hfirst, hdecode⟩ := fetch_ok.mp hfetch
      have hnext := (decode_next hfirst hdecode).1
      obtain ⟨hprogram, hcfg⟩ := heffect.fixed
      obtain ⟨hwf, hexists⟩ := heffect.inBounds ⟨hinv.mem_wf, hinv.mem_exists⟩
      obtain ⟨hreturns, hpc⟩ := heffect.slots (P := reachableSlot s.program) (fun _ => hnext)
        (fun z hz => (reachableSlot_of_validTarget hz).1) hinv.returns
      refine ⟨hwf, ?_, ?_, ?_, ?_⟩
      · rwa [hcfg]
      · rw [hcfg]
        exact heffect.depth hinv.depth
      · rwa [hprogram]
      · rw [hcfg, hprogram]
        exact fun hrun hpacket => hpc hrun fun _ => hpacket
    · exact inv_raise hinv f

/-- The start state of any program stands at slot 0 with an empty call stack. -/
theorem inv_start {cfg : Config} {program : List Slot} {regs : Regs} {mem : Memory} {platform : Nat}
    (hmem : MemInBounds cfg.regions mem) : Inv (State.start cfg program regs mem platform) where
  mem_wf := hmem.1
  mem_exists := hmem.2
  depth := Nat.zero_le _
  returns _ hk := nomatch hk
  pc _ _ := ⟨Nat.zero_le _, (secondSlotScan program).1⟩

/-- Settles O27: reset is a start state, whose memory lists nothing. -/
theorem invAtReset : Obligations.InvAtReset := by
  unfold Obligations.InvAtReset
  exact ⟨inv_start ⟨Memory.wf_nil, fun _ hc => nomatch hc⟩, fun _ _ _ _ _ hwf hexists => inv_start ⟨hwf, hexists⟩⟩

/-- Settles O26: the components of the start state with the parameters of reset. -/
theorem resetState : Obligations.ResetState := by
  unfold Obligations.ResetState
  refine ⟨rfl, rfl, rfl, fun r hr => ?_, fun _ => rfl, rfl, rfl, rfl, rfl, rfl, rfl, fun g => ?_⟩
  · have hlt : r.toNat < 11 := by omega
    simp [State.reset, State.start, resetRegs, Regs.get, hlt]
  · cases g <;> simp [State.reset, State.start, resetConfig, Groups.has]

/-! ### Runs of a well-formed program (60_exceptions.md R418) -/

/-- A slot of the program at which an instruction starts. -/
def FirstSlot (program : List Slot) (k : Nat) : Prop := k < program.length ∧ isSecondSlot program k = false

theorem mem_firstSlots {program : List Slot} {k : Nat} : k ∈ firstSlots program ↔ FirstSlot program k := by
  simp [firstSlots, FirstSlot]

/-- No first slot comes after the last of them. -/
theorem le_last_firstSlot {program : List Slot} {k last : Nat} (hlast : (firstSlots program).getLast? = some last)
    (hk : FirstSlot program k) : k ≤ last := by
  have hsorted : (firstSlots program).Pairwise (· < ·) := List.pairwise_lt_range.filter _
  obtain ⟨init, hinit⟩ := List.getLast?_eq_some_iff.mp hlast
  have hmem := mem_firstSlots.mpr hk
  rw [hinit] at hsorted hmem
  obtain hmem | hmem := List.mem_append.mp hmem
  · exact ((List.pairwise_append.mp hsorted).2.2 k hmem last (by simp)).le
  · exact (List.mem_singleton.mp hmem).le

section
variable {cfg : Config} {program : List Slot}

/-- What the static predicate says of a first slot: it holds a permitted instruction that is no stray second slot and
whose target, if it has one, is valid. -/
theorem decode_of_wellFormed (hwf : programWellFormed cfg program = true) {k : Nat} (hk : FirstSlot program k) :
    ∃ i, decode cfg.endian (program.drop k) = .ok i ∧ instrPermitted cfg i = true ∧ isSecondSlotInstr i = false ∧
      ∀ D, i.jumpDistance = some D → validTarget program (k + 1 + D) = true := by
  simp only [programWellFormed, Bool.and_eq_true, List.all_eq_true] at hwf
  have hslot := hwf.1.2 k (mem_firstSlots.mpr hk)
  unfold slotWellFormed at hslot
  split at hslot
  case h_1 => exact nomatch hslot
  case h_2 i hdecode =>
    simp only [Bool.and_eq_true, Bool.not_eq_true'] at hslot
    obtain ⟨⟨hpermitted, hsecond⟩, htarget⟩ := hslot
    refine ⟨i, hdecode, hpermitted, hsecond, fun D hD => ?_⟩
    simpa [hD] using htarget

/-- After an instruction that may fall through comes another first slot: only the last one may end the flow. -/
theorem firstSlot_next (hwf : programWellFormed cfg program = true) {k : Nat} (hk : FirstSlot program k) {i : Instr}
    (hdecode : decode cfg.endian (program.drop k) = .ok i) (hflows : endsFlow i = false) :
    FirstSlot program (k + i.size) := by
  obtain ⟨⟨hle, hfirst⟩, hsize⟩ := decode_next hk.2 hdecode
  refine ⟨lt_of_le_of_ne hle fun hend => ?_, hfirst⟩
  simp only [programWellFormed, endsWell, Bool.and_eq_true] at hwf
  have hends := hwf.2
  split at hends
  case h_1 => exact nomatch hends
  case h_2 last hlast =>
    have hfirstLast := mem_firstSlots.mp (List.mem_of_getLast? hlast)
    have hk_le := le_last_firstSlot hlast hk
    have hlast_eq : last = k := by
      obtain hone | ⟨htwo, hsecond⟩ := hsize
      · have := hfirstLast.1
        omega
      · have hne : last ≠ k + 1 := by
          rintro rfl
          exact Bool.false_ne_true (hfirstLast.2.symm.trans hsecond)
        have := hfirstLast.1
        omega
    rw [hlast_eq, hdecode] at hends
    exact Bool.false_ne_true (hflows.symm.trans hends)

/-- The invariant of a run of `program`: pc and the return slots are first slots, and no fault is one that the static
predicate rules out. -/
structure RunInv (cfg : Config) (program : List Slot) (s : State) : Prop where
  cfg_eq : s.cfg = cfg
  program_eq : s.program = program
  pc : s.status = .running → FirstSlot program s.pc
  returns : ∀ k ∈ s.callstack, FirstSlot program k
  fault : ∀ f, s.status = .faulted f → ¬ staticFault f

/-- Raising a fault that the static predicate does not rule out keeps the invariant. -/
theorem runInv_raise {s : State} (h : RunInv cfg program s) {f : FaultInfo} (hf : ¬ staticFault f) :
    RunInv cfg program (raise f s) where
  cfg_eq := h.cfg_eq
  program_eq := h.program_eq
  pc hrunning := nomatch hrunning
  returns := h.returns
  fault g hg := by
    obtain rfl := RunStatus.faulted.inj hg
    exact hf

/-- The helpers that the platform supplies raise no fault that the static predicate rules out. -/
def HelpersFaultDynamically (cfg : Config) : Prop :=
  ∀ kind id x m q g, (kind, id) ∈ cfg.helpers → Config.helper kind id cfg x m q = .faults g → ¬ staticFault g

/-- At a first slot of a well-formed program every fault of the instruction is a dynamic one. -/
theorem EffectFault.not_static {i : Instr} {s : State} {f : FaultInfo} (h : EffectFault i s f)
    (hsecond : isSecondSlotInstr i = false)
    (htarget : ∀ D, i.jumpDistance = some D → validTarget s.program (s.target D) = true)
    (hhelpers : HelpersFaultDynamically s.cfg) : ¬ staticFault f := by
  cases h with
  | secondSlot hstray => exact absurd hstray (by simp [hsecond])
  | target hdistance hinvalid => exact absurd (htarget _ hdistance) (by simp [hinvalid])
  | helper hsupplied hfaults => exact hhelpers _ _ _ _ _ _ hsupplied hfaults
  | dynamic hdynamic => exact hdynamic

theorem runInv_step (hwf : programWellFormed cfg program = true)
    (hpacket : cfg.groups.packet = false ∨ cfg.packetAccess = false) (hhelpers : HelpersFaultDynamically cfg)
    {s t : State} (h : RunInv cfg program s) (hstep : step s = .next t) : RunInv cfg program t := by
  obtain ⟨hcfg, hprogram, hpc, hreturns, -⟩ := id h
  subst hcfg hprogram
  obtain ⟨hrunning, hfetched⟩ := step_cases hstep
  obtain ⟨hlt, hfirst⟩ := hpc hrunning
  obtain ⟨i, hdecode, hpermitted, hsecond, htarget⟩ := decode_of_wellFormed hwf ⟨hlt, hfirst⟩
  have hfetch : s.fetch = .ok i := fetch_ok.mpr ⟨hlt, hfirst, hdecode⟩
  obtain ⟨f, herror, -⟩ | ⟨j, hj, hexec⟩ := hfetched
  · exact nomatch herror.symm.trans hfetch
  obtain rfl := Except.ok.inj (hj.symm.trans hfetch)
  obtain ⟨-, heffect⟩ | ⟨f, rfl, ⟨hdenied, -⟩ | ⟨-, hfault⟩⟩ := exec_cases hexec
  · obtain ⟨hprogram', hcfg'⟩ := heffect.fixed
    have hsupplied : j.group = .packet → s.cfg.packetAccess = false := fun hgroup => by
      have hgroups := has_group_of_permitted hpermitted
      rw [hgroup] at hgroups
      exact hpacket.resolve_left fun hnone => Bool.false_ne_true (hnone.symm.trans hgroups)
    obtain ⟨hreturns', hpc'⟩ := heffect.slots (P := FirstSlot s.program) (firstSlot_next hwf ⟨hlt, hfirst⟩ hdecode)
      (fun z hz => ⟨(reachableSlot_of_validTarget hz).2, (reachableSlot_of_validTarget hz).1.2⟩) hreturns
    refine ⟨hcfg', hprogram', fun hrun => hpc' hrun hsupplied, hreturns', fun f hf => ?_⟩
    obtain hstatus | hstatus := heffect.status hsupplied
    · exact nomatch hf.symm.trans (hstatus.trans hrunning)
    · exact nomatch hf.symm.trans hstatus
  · exact nomatch hdenied.symm.trans hpermitted
  · exact runInv_raise h (hfault.not_static hsecond htarget hhelpers)

/-- The start state stands at slot 0, a first slot since a well-formed program is not empty. -/
theorem runInv_start (hwf : programWellFormed cfg program = true) (regs : Regs) (mem : Memory) (platform : Nat) :
    RunInv cfg program (State.start cfg program regs mem platform) where
  cfg_eq := rfl
  program_eq := rfl
  pc _ := by
    simp only [programWellFormed, Bool.and_eq_true, decide_eq_true_eq] at hwf
    exact ⟨hwf.1.1, (secondSlotScan program).1⟩
  returns _ hk := nomatch hk
  fault _ hf := nomatch hf

theorem runInv_of_reaches (hwf : programWellFormed cfg program = true)
    (hpacket : cfg.groups.packet = false ∨ cfg.packetAccess = false) (hhelpers : HelpersFaultDynamically cfg)
    {regs : Regs} {mem : Memory} {platform : Nat} {s : State}
    (hreaches : Reaches (State.start cfg program regs mem platform) s) : RunInv cfg program s := by
  induction hreaches with
  | start => exact runInv_start hwf regs mem platform
  | step _ hstep ih => exact runInv_step hwf hpacket hhelpers ih hstep

end

/-- Settles O29: the run's invariant holds at the start and is kept by every step. -/
theorem wellFormedProgramsDecode : Obligations.WellFormedProgramsDecode := by
  unfold Obligations.WellFormedProgramsDecode
  intro cfg program regs mem platform s f hwf hpacket hhelpers hreaches hfault
  exact (runInv_of_reaches hwf hpacket hhelpers hreaches).fault f hfault

end Sys2Proof.Laws
end

section
/-! The results of the arithmetic instructions (40_arithmetic.md, 41_arithmetic2.md): addition, the bitwise operations,
multiplication, division and modulo, the moves and negation. -/

namespace Sys2Proof.Laws

open Sys2Proof.Machine Sys2Proof.Claims

/-! ### The operations on bit vectors compute the pseudocode's numbers -/

/-- The operation computes `f` on the numbers its operands stand for. -/
def ComputesAs {N : Nat} (op : BitVec N → BitVec N → BitVec N) (f : Nat → Nat → Nat) : Prop :=
  ∀ a b, (op a b).toNat = f a.toNat b.toNat

section
variable {N : Nat}

theorem computesAs_add (N : Nat) : ComputesAs (N := N) opAdd (addN N) := fun a b => by
  rw [opAdd_eq, BitVec.toNat_add, addN]

theorem computesAs_sub (N : Nat) : ComputesAs (N := N) opSub (subN N) := fun _ _ =>
  (wrap_eq_toNat_ofInt N _).symm

theorem computesAs_mul (N : Nat) : ComputesAs (N := N) opMul (mulN N) := fun a b => by
  rw [opMul_eq, BitVec.toNat_mul, mulN]

theorem computesAs_or (N : Nat) : ComputesAs (N := N) opOr (· ||| ·) := fun a b => BitVec.toNat_or a b

theorem computesAs_and (N : Nat) : ComputesAs (N := N) opAnd (· &&& ·) := fun a b => BitVec.toNat_and a b

theorem computesAs_xor (N : Nat) : ComputesAs (N := N) opXor (· ^^^ ·) := fun a b => BitVec.toNat_xor a b

theorem computesAs_div (N : Nat) : ComputesAs (N := N) opDiv divN := fun a b => by
  rw [opDiv_eq, BitVec.toNat_udiv, divN]
  split
  · rw [‹b.toNat = 0›, Nat.div_zero]
  · rfl

theorem computesAs_mod (N : Nat) : ComputesAs (N := N) opMod modN := fun a b => by
  rw [opMod_eq, BitVec.toNat_umod, modN]
  split
  · rw [‹b.toNat = 0›, Nat.mod_zero]
  · exact Nat.mod_eq_sub_mul_div

theorem toNat_eq_zero_iff {b : BitVec N} : b = 0#N ↔ b.toNat = 0 := by
  rw [← BitVec.toNat_inj, BitVec.toNat_zero]

theorem computesAs_sdiv (hN : 0 < N) : ComputesAs (N := N) opSdiv (sdivN N) := fun a b => by
  simp only [opSdiv, sdivN, toNat_eq_zero_iff, signed_toNat hN, wrap_eq_toNat_ofInt]
  split <;> simp

theorem computesAs_smod (hN : 0 < N) : ComputesAs (N := N) opSmod (smodN N) := fun a b => by
  simp only [opSmod, smodN, toNat_eq_zero_iff, signed_toNat hN, wrap_eq_toNat_ofInt]
  split <;> simp

end

/-! ### Rows of the tables of results -/

/-- A row of a table of results: the instruction, if it may run, completes with the number in x[d]. -/
def ResultRow (s : State) (d : RegNum) (p : Instr × Nat) : Prop :=
  MayRun s p.1 → Completes p.1 s fun t => RegNumber s t d p.2 1

section
variable {i j : Instr} {f : Nat → Nat → Nat} {s : State} {d r : RegNum} {imm : Imm} {a b : Word}

/-- The K and the X row of a class ALU operation. -/
theorem resultRows_alu32 {op : Half → Half → Half} (ha : Regs.get s.regs d = some a) (hb : Regs.get s.regs r = some b)
    (hop : ComputesAs op f) (hi : IsAlu32 i op d (.imm imm)) (hj : IsAlu32 j op d (.reg r)) :
    ResultRow s d (i, f (low a) imm.toNat) ∧ ResultRow s d (j, f (low a) (low b)) := by
  rw [← toNat_low32 a, ← toNat_low32 b]
  refine ⟨fun hrun => ?_, fun hrun => ?_⟩
  · rw [← hop]
    exact hi.completes hrun ha (Source.operand32_imm imm s)
  · rw [← hop]
    exact hj.completes hrun ha (Source.operand32_reg_ok.mpr ⟨b, hb, rfl⟩)

/-- The K and the X row of a class ALU64 operation. -/
theorem resultRows_alu64 {op : Word → Word → Word} (ha : Regs.get s.regs d = some a) (hb : Regs.get s.regs r = some b)
    (hop : ComputesAs op f) (hi : IsAlu64 i op d (.imm imm)) (hj : IsAlu64 j op d (.reg r)) :
    ResultRow s d (i, f a.toNat (sext imm)) ∧ ResultRow s d (j, f a.toNat b.toNat) := by
  rw [← toNat_sext64]
  refine ⟨fun hrun => ?_, fun hrun => ?_⟩
  · rw [← hop]
    exact hi.completes hrun ha (Source.operand64_imm imm s)
  · rw [← hop]
    exact hj.completes hrun ha (Source.operand64_reg_ok.mpr hb)

/-- A table of five operations, each with its K and its X row. -/
theorem forall_mem_five_pairs {P : Instr × Nat → Prop} {p₁ q₁ p₂ q₂ p₃ q₃ p₄ q₄ p₅ q₅ : Instr × Nat}
    (h₁ : P p₁ ∧ P q₁) (h₂ : P p₂ ∧ P q₂) (h₃ : P p₃ ∧ P q₃) (h₄ : P p₄ ∧ P q₄) (h₅ : P p₅ ∧ P q₅) :
    ∀ p ∈ [p₁, q₁, p₂, q₂, p₃, q₃, p₄, q₄, p₅, q₅], P p := by
  simp only [List.forall_mem_cons]
  exact ⟨h₁.1, h₁.2, h₂.1, h₂.2, h₃.1, h₃.2, h₄.1, h₄.2, h₅.1, h₅.2, List.forall_mem_nil _⟩

end

/-- Settles O30: each operation on the low halves computes the pseudocode's number. -/
theorem alu32Results : Obligations.Alu32Results := by
  unfold Obligations.Alu32Results
  intro s d r imm a b ha hb
  exact forall_mem_five_pairs (P := ResultRow s d)
    (resultRows_alu32 ha hb (computesAs_add 32) ⟨fun _ => rfl, rfl, rfl, rfl⟩ ⟨fun _ => rfl, rfl, rfl, rfl⟩)
    (resultRows_alu32 ha hb (computesAs_sub 32) ⟨fun _ => rfl, rfl, rfl, rfl⟩ ⟨fun _ => rfl, rfl, rfl, rfl⟩)
    (resultRows_alu32 ha hb (computesAs_or 32) ⟨fun _ => rfl, rfl, rfl, rfl⟩ ⟨fun _ => rfl, rfl, rfl, rfl⟩)
    (resultRows_alu32 ha hb (computesAs_and 32) ⟨fun _ => rfl, rfl, rfl, rfl⟩ ⟨fun _ => rfl, rfl, rfl, rfl⟩)
    (resultRows_alu32 ha hb (computesAs_xor 32) ⟨fun _ => rfl, rfl, rfl, rfl⟩ ⟨fun _ => rfl, rfl, rfl, rfl⟩)

/-- Settles O31: as `alu32Results`, on whole registers and the sign-extended immediate. -/
theorem alu64Results : Obligations.Alu64Results := by
  unfold Obligations.Alu64Results
  intro s d r imm a b ha hb
  exact forall_mem_five_pairs (P := ResultRow s d)
    (resultRows_alu64 ha hb (computesAs_add 64) ⟨fun _ => rfl, rfl, rfl⟩ ⟨fun _ => rfl, rfl, rfl⟩)
    (resultRows_alu64 ha hb (computesAs_sub 64) ⟨fun _ => rfl, rfl, rfl⟩ ⟨fun _ => rfl, rfl, rfl⟩)
    (resultRows_alu64 ha hb (computesAs_or 64) ⟨fun _ => rfl, rfl, rfl⟩ ⟨fun _ => rfl, rfl, rfl⟩)
    (resultRows_alu64 ha hb (computesAs_and 64) ⟨fun _ => rfl, rfl, rfl⟩ ⟨fun _ => rfl, rfl, rfl⟩)
    (resultRows_alu64 ha hb (computesAs_xor 64) ⟨fun _ => rfl, rfl, rfl⟩ ⟨fun _ => rfl, rfl, rfl⟩)

/-- Settles O32: the product, the quotients and the remainders of the low halves. -/
theorem divMul32Results : Obligations.DivMul32Results := by
  unfold Obligations.DivMul32Results
  intro s d r imm a b ha hb
  exact forall_mem_five_pairs (P := ResultRow s d)
    (resultRows_alu32 ha hb (computesAs_mul 32) ⟨fun _ => rfl, rfl, rfl, rfl⟩ ⟨fun _ => rfl, rfl, rfl, rfl⟩)
    (resultRows_alu32 ha hb (computesAs_div 32) ⟨fun _ => rfl, rfl, rfl, rfl⟩ ⟨fun _ => rfl, rfl, rfl, rfl⟩)
    (resultRows_alu32 ha hb (computesAs_sdiv (by decide)) ⟨fun _ => rfl, rfl, rfl, rfl⟩ ⟨fun _ => rfl, rfl, rfl, rfl⟩)
    (resultRows_alu32 ha hb (computesAs_mod 32) ⟨fun _ => rfl, rfl, rfl, rfl⟩ ⟨fun _ => rfl, rfl, rfl, rfl⟩)
    (resultRows_alu32 ha hb (computesAs_smod (by decide)) ⟨fun _ => rfl, rfl, rfl, rfl⟩ ⟨fun _ => rfl, rfl, rfl, rfl⟩)

/-- Settles O33: as `divMul32Results`, on whole registers and the sign-extended immediate. -/
theorem divMul64Results : Obligations.DivMul64Results := by
  unfold Obligations.DivMul64Results
  intro s d r imm a b ha hb
  exact forall_mem_five_pairs (P := ResultRow s d)
    (resultRows_alu64 ha hb (computesAs_mul 64) ⟨fun _ => rfl, rfl, rfl⟩ ⟨fun _ => rfl, rfl, rfl⟩)
    (resultRows_alu64 ha hb (computesAs_div 64) ⟨fun _ => rfl, rfl, rfl⟩ ⟨fun _ => rfl, rfl, rfl⟩)
    (resultRows_alu64 ha hb (computesAs_sdiv (by decide)) ⟨fun _ => rfl, rfl, rfl⟩ ⟨fun _ => rfl, rfl, rfl⟩)
    (resultRows_alu64 ha hb (computesAs_mod 64) ⟨fun _ => rfl, rfl, rfl⟩ ⟨fun _ => rfl, rfl, rfl⟩)
    (resultRows_alu64 ha hb (computesAs_smod (by decide)) ⟨fun _ => rfl, rfl, rfl⟩ ⟨fun _ => rfl, rfl, rfl⟩)

/-! ### Zero divisors and overflow (40_arithmetic.md section 3) -/

section
variable {s : State} {d r : RegNum} {imm : Imm} {a b : Word}

/-- The rows of multiplication, division and modulo of both classes. -/
theorem resultRow_divMul (ha : Regs.get s.regs d = some a) (hb : Regs.get s.regs r = some b) {i : Instr} {v w : Nat}
    (hrow : (i, v) ∈ divmul32 d r imm a b ++ divmul64 d r imm a b) (hvw : v = w) : ResultRow s d (i, w) := by
  subst hvw
  obtain hrow | hrow := List.mem_append.mp hrow
  · exact divMul32Results s d r imm a b ha hb _ hrow
  · exact divMul64Results s d r imm a b ha hb _ hrow

end

theorem divN_zero (x : Nat) : divN x 0 = 0 := rfl

theorem modN_zero (x : Nat) : modN x 0 = x := rfl

theorem sdivN_zero (N x : Nat) : sdivN N x 0 = 0 := rfl

theorem smodN_zero (N x : Nat) : smodN N x 0 = x := rfl

/-- Only the immediate 0 is extended to 0. -/
theorem sext_of_toNat_eq_zero {imm : Imm} (h : imm.toNat = 0) : sext imm = 0 := by
  obtain rfl : imm = 0#32 := toNat_eq_zero_iff.mpr h
  decide

/-- Settles O35: the rows of division and modulo at a divisor of 0. -/
theorem divisionByZero : Obligations.DivisionByZero := by
  unfold Obligations.DivisionByZero
  intro s d r imm a b ha hb
  have row {i v w} (hrow : (i, v) ∈ divmul32 d r imm a b ++ divmul64 d r imm a b) (hvw : v = w) (hrun : MayRun s i) :
      Completes i s fun t => RegNumber s t d w 1 := resultRow_divMul ha hb hrow hvw hrun
  simp only [zeroDivisor, List.forall_mem_cons]
  refine ⟨fun hrun h0 => row (v := divN (low a) imm.toNat) ?_ (by rw [h0, divN_zero]) hrun,
    fun hrun h0 => row (v := divN (low a) (low b)) ?_ (by rw [h0, divN_zero]) hrun,
    fun hrun h0 => row (v := divN a.toNat (sext imm)) ?_ (by rw [sext_of_toNat_eq_zero h0, divN_zero]) hrun,
    fun hrun h0 => row (v := divN a.toNat b.toNat) ?_ (by rw [h0, divN_zero]) hrun,
    fun hrun h0 => row (v := sdivN 32 (low a) imm.toNat) ?_ (by rw [h0, sdivN_zero]) hrun,
    fun hrun h0 => row (v := sdivN 32 (low a) (low b)) ?_ (by rw [h0, sdivN_zero]) hrun,
    fun hrun h0 => row (v := sdivN 64 a.toNat (sext imm)) ?_ (by rw [sext_of_toNat_eq_zero h0, sdivN_zero]) hrun,
    fun hrun h0 => row (v := sdivN 64 a.toNat b.toNat) ?_ (by rw [h0, sdivN_zero]) hrun,
    fun hrun h0 => row (v := modN (low a) imm.toNat) ?_ (by rw [h0, modN_zero]) hrun,
    fun hrun h0 => row (v := modN (low a) (low b)) ?_ (by rw [h0, modN_zero]) hrun,
    fun hrun h0 => row (v := modN a.toNat (sext imm)) ?_ (by rw [sext_of_toNat_eq_zero h0, modN_zero]) hrun,
    fun hrun h0 => row (v := modN a.toNat b.toNat) ?_ (by rw [h0, modN_zero]) hrun,
    fun hrun h0 => row (v := smodN 32 (low a) imm.toNat) ?_ (by rw [h0, smodN_zero]) hrun,
    fun hrun h0 => row (v := smodN 32 (low a) (low b)) ?_ (by rw [h0, smodN_zero]) hrun,
    fun hrun h0 => row (v := smodN 64 a.toNat (sext imm)) ?_ (by rw [sext_of_toNat_eq_zero h0, smodN_zero]) hrun,
    fun hrun h0 => row (v := smodN 64 a.toNat b.toNat) ?_ (by rw [h0, smodN_zero]) hrun, List.forall_mem_nil _⟩
  all_goals simp [divmul32, divmul64]

/-- The immediate with all bits set is extended to the number with all bits set. -/
theorem sext_of_toNat_eq_ones {imm : Imm} (h : imm.toNat = 2 ^ 32 - 1) : sext imm = 2 ^ 64 - 1 := by
  obtain rfl : imm = 0xffffffff#32 := BitVec.eq_of_toNat_eq h
  decide

/-- Settles O36: the rows of signed division and modulo at the most negative number and -1. -/
theorem signedOverflow : Obligations.SignedOverflow := by
  unfold Obligations.SignedOverflow
  intro s d r imm a b ha hb
  have row {i v w} (hrow : (i, v) ∈ divmul32 d r imm a b ++ divmul64 d r imm a b) (hvw : v = w) (hrun : MayRun s i) :
      Completes i s fun t => RegNumber s t d w 1 := resultRow_divMul ha hb hrow hvw hrun
  have hdiv32 : sdivN 32 (2 ^ 31) (2 ^ 32 - 1) = 2 ^ 31 := by decide
  have hdiv64 : sdivN 64 (2 ^ 63) (2 ^ 64 - 1) = 2 ^ 63 := by decide
  have hmod32 : smodN 32 (2 ^ 31) (2 ^ 32 - 1) = 0 := by decide
  have hmod64 : smodN 64 (2 ^ 63) (2 ^ 64 - 1) = 0 := by decide
  simp only [Claims.signedOverflow, List.forall_mem_cons]
  refine ⟨fun hrun ⟨hx, hy⟩ => row (v := sdivN 32 (low a) imm.toNat) ?_ (by rw [hx, hy, hdiv32]) hrun,
    fun hrun ⟨hx, hy⟩ => row (v := sdivN 32 (low a) (low b)) ?_ (by rw [hx, hy, hdiv32]) hrun,
    fun hrun ⟨hx, hy⟩ => row (v := sdivN 64 a.toNat (sext imm)) ?_
      (by rw [hx, sext_of_toNat_eq_ones hy, hdiv64]) hrun,
    fun hrun ⟨hx, hy⟩ => row (v := sdivN 64 a.toNat b.toNat) ?_ (by rw [hx, hy, hdiv64]) hrun,
    fun hrun ⟨hx, hy⟩ => row (v := smodN 32 (low a) imm.toNat) ?_ (by rw [hx, hy, hmod32]) hrun,
    fun hrun ⟨hx, hy⟩ => row (v := smodN 32 (low a) (low b)) ?_ (by rw [hx, hy, hmod32]) hrun,
    fun hrun ⟨hx, hy⟩ => row (v := smodN 64 a.toNat (sext imm)) ?_
      (by rw [hx, sext_of_toNat_eq_ones hy, hmod64]) hrun,
    fun hrun ⟨hx, hy⟩ => row (v := smodN 64 a.toNat b.toNat) ?_ (by rw [hx, hy, hmod64]) hrun, List.forall_mem_nil _⟩
  all_goals simp [divmul32, divmul64]

/-! ### The truncated remainder (40_arithmetic.md R106) -/

/-- A number in the signed range is what its reduction modulo 2^N stands for. -/
theorem signed_wrap {N : Nat} (hN : 0 < N) {z : Int} (hlow : -2 ^ (N - 1) ≤ z) (hhigh : z < 2 ^ (N - 1)) :
    signed N (wrap N z) = z := by
  rw [wrap_eq_toNat_ofInt, signed_toNat hN, BitVec.toInt_ofInt_eq_self hN hlow hhigh]

/-- A truncated remainder lies between 0 and its dividend. -/
theorem tmod_between (x y : Int) : (0 ≤ x → 0 ≤ x.tmod y ∧ x.tmod y ≤ x) ∧ (x ≤ 0 → x ≤ x.tmod y ∧ x.tmod y ≤ 0) := by
  have hle : (x.tmod y).natAbs ≤ x.natAbs := by
    rw [Int.natAbs_tmod]
    exact Nat.mod_le _ _
  refine ⟨fun hx => ?_, fun hx => ?_⟩
  · have := Int.tmod_nonneg y hx
    omega
  · have := Int.tmod_nonneg y (Int.neg_nonneg.mpr hx)
    rw [Int.neg_tmod] at this
    omega

/-- SMOD leaves the truncated remainder of the signed operands. -/
theorem signed_smodN {N : Nat} (hN : 0 < N) (x y : BitVec N) (hy : y.toNat ≠ 0) :
    signed N (smodN N x.toNat y.toNat) = x.toInt.tmod y.toInt := by
  have hbetween := tmod_between x.toInt y.toInt
  have hlow := BitVec.le_toInt x
  have hhigh := BitVec.toInt_lt (x := x)
  have hpow : (0 : Int) < 2 ^ (N - 1) := by positivity
  rw [smodN, if_neg hy, signed_toNat hN, signed_toNat hN, ← Int.tmod_def]
  apply signed_wrap hN
  · omega
  · omega

/-- A row of the table of signed remainders. -/
def RemainderRow (s : State) (d : RegNum) (p : Instr × Nat × Nat × Nat) : Prop :=
  MayRun s p.1 → p.2.2.2 ≠ 0 →
    ∃ v < 2 ^ p.2.1, Completes p.1 s (fun t => RegNumber s t d v 1) ∧
      (signed p.2.1 v = 0 ∨ (0 < signed p.2.1 v ↔ 0 < signed p.2.1 p.2.2.1)) ∧
      (signed p.2.1 v).natAbs < (signed p.2.1 p.2.2.2).natAbs ∧
      ∃ q : Int, signed p.2.1 p.2.2.1 = signed p.2.1 p.2.2.2 * q + signed p.2.1 v

theorem remainderRow {i : Instr} {s : State} {d : RegNum} {N : Nat} (hN : 0 < N) (x y : BitVec N)
    (hrow : ResultRow s d (i, smodN N x.toNat y.toNat)) : RemainderRow s d (i, N, x.toNat, y.toNat) := by
  intro hrun hy
  have hvalue := signed_smodN hN x y hy
  have hbetween := tmod_between x.toInt y.toInt
  have hy' : y.toInt ≠ 0 := fun h => hy (toNat_eq_zero_iff.mp (BitVec.toInt_inj.mp (by simpa using h)))
  refine ⟨_, ?_, hrow hrun, ?_, ?_, x.toInt.tdiv y.toInt, ?_⟩
  · rw [smodN, if_neg hy, wrap_eq_toNat_ofInt]
    exact BitVec.isLt _
  · simp only [hvalue, signed_toNat hN]
    omega
  · simp only [hvalue, signed_toNat hN]
    rw [Int.natAbs_tmod]
    exact Nat.mod_lt _ (Int.natAbs_pos.mpr hy')
  · simp only [hvalue, signed_toNat hN]
    exact (Int.mul_tdiv_add_tmod _ _).symm

/-- Settles O37: the rows of SMOD leave the truncated remainder. -/
theorem truncatedRemainder : Obligations.TruncatedRemainder := by
  unfold Obligations.TruncatedRemainder
  intro s d r imm a b ha hb
  have h32 := resultRows_alu32 (imm := imm) ha hb (computesAs_smod (N := 32) (by decide))
    (i := .smodAluK d imm) (j := .smodAluX d r) ⟨fun _ => rfl, rfl, rfl, rfl⟩ ⟨fun _ => rfl, rfl, rfl, rfl⟩
  have h64 := resultRows_alu64 (imm := imm) ha hb (computesAs_smod (N := 64) (by decide))
    (i := .smodAlu64K d imm) (j := .smodAlu64X d r) ⟨fun _ => rfl, rfl, rfl⟩ ⟨fun _ => rfl, rfl, rfl⟩
  have rows : ∀ p ∈ signedRemainders d r imm a b, RemainderRow s d p := by
    rw [← toNat_low32 a, ← toNat_low32 b] at h32
    rw [← toNat_sext64] at h64
    simp only [signedRemainders, List.forall_mem_cons, ← toNat_low32, ← toNat_sext64]
    exact ⟨remainderRow (by decide) (low32 a) imm h32.1, remainderRow (by decide) (low32 a) (low32 b) h32.2,
      remainderRow (by decide) a (sext64 imm) h64.1, remainderRow (by decide) a b h64.2, List.forall_mem_nil _⟩
  exact rows

/-! ### The moves (41_arithmetic2.md sections 7 and 8) -/

section
variable {i : Instr} {s : State} {d : RegNum} {src : Source} {a : Word}

/-- An instruction that may run and answers x[d] written and pc advanced has that result. -/
theorem completes_of_eq_next {v : Word} {n : Nat} (hexec : exec i s = .next ((s.setReg d v).advance n))
    (hd : d ∈ i.regFields) (hrun : MayRun s i) : Completes i s fun t => RegResult s t d v n :=
  ⟨_, hexec, regResult_setReg_advance s v n (by simpa [isRegister] using hrun.2.1 d hd)⟩

/-- A result as a word is a result as its number. -/
theorem completes_regNumber {v n : Nat} {w : Word} (h : Completes i s fun t => RegResult s t d w n)
    (hw : w.toNat = v) : Completes i s fun t => RegNumber s t d v n := by
  obtain ⟨t, hexec, hresult⟩ := h
  exact ⟨t, hexec, hw ▸ regNumber_toNat hresult⟩

theorem resultRow_move32 {op : Half → Half} {b : Half} {v : Nat} (hexec : exec i s = move32 i.group op d src s)
    (hregs : i.regFields = d :: src.regFields) (hwritten : i.written = some d) (hb : src.operand32 s = .ok b)
    (hv : (op b).toNat = v) : ResultRow s d (i, v) := by
  intro hrun
  have hmay := mayRun_of_MayRun hrun
  rw [hregs, hwritten] at hmay
  have hnext : exec i s = .next ((s.setReg d (zext64 (op b))).advance 1) := by
    rw [hexec]
    simp [move32, (permit_ok (u := ())).mpr hmay, hb]
  exact completes_regNumber (completes_of_eq_next hnext (by simp [hregs]) hrun) ((toNat_zext64 _).trans hv)

theorem resultRow_move64 {op : Word → Word} {b : Word} {v : Nat} (hexec : exec i s = move64 i.group op d src s)
    (hregs : i.regFields = d :: src.regFields) (hwritten : i.written = some d) (hb : src.operand64 s = .ok b)
    (hv : (op b).toNat = v) : ResultRow s d (i, v) := by
  intro hrun
  have hmay := mayRun_of_MayRun hrun
  rw [hregs, hwritten] at hmay
  have hnext : exec i s = .next ((s.setReg d (op b)).advance 1) := by
    rw [hexec]
    simp [move64, (permit_ok (u := ())).mpr hmay, hb]
  exact completes_regNumber (completes_of_eq_next hnext (by simp [hregs]) hrun) hv

/-- The low bytes of the low half are the low bytes of the word, if the half holds them all. -/
theorem toNat_signExtendHalf {n : Nat} (hn : 0 < n) (hn4 : n ≤ 4) (v : Word) :
    (signExtendHalf n (low32 v)).toNat = sextFrom (8 * n) 32 v.toNat := by
  have hlow : v.toNat % 2 ^ 32 % 2 ^ (8 * n) = v.toNat % 2 ^ (8 * n) :=
    Nat.mod_mod_of_dvd _ (Nat.pow_dvd_pow 2 (by omega))
  rw [signExtendHalf, BitVec.signExtend, sextFrom, wrap_eq_toNat_ofInt, ← signed_toNat (by omega),
    BitVec.toNat_setWidth, toNat_low32, low, hlow]

/-- Settles O39: a move writes its source operand, extended from its low bytes for MOVSX. -/
theorem moveResults : Obligations.MoveResults := by
  unfold Obligations.MoveResults
  refine ⟨fun s d imm => ?_, fun s d r b hb => ?_⟩
  · have rows : ∀ p ∈ movesK d imm, ResultRow s d p := by
      simp only [movesK, List.forall_mem_cons]
      exact ⟨resultRow_move32 (src := .imm imm) rfl rfl rfl rfl rfl,
        resultRow_move64 (src := .imm imm) rfl rfl rfl rfl (toNat_sext64 imm), List.forall_mem_nil _⟩
    exact rows
  · have hb32 : (Source.reg r).operand32 s = .ok (low32 b) := Source.operand32_reg_ok.mpr ⟨b, hb, rfl⟩
    have hb64 : (Source.reg r).operand64 s = .ok b := Source.operand64_reg_ok.mpr hb
    have rows : ∀ p ∈ movesX d r b, ResultRow s d p := by
      simp only [movesX, List.forall_mem_cons]
      exact ⟨resultRow_move32 (src := .reg r) rfl rfl rfl hb32 (toNat_low32 b),
        resultRow_move64 (src := .reg r) rfl rfl rfl hb64 rfl,
        resultRow_move32 (src := .reg r) rfl rfl rfl hb32 (toNat_signExtendHalf (by decide) (by decide) b),
        resultRow_move32 (src := .reg r) rfl rfl rfl hb32 (toNat_signExtendHalf (by decide) (by decide) b),
        resultRow_move64 (src := .reg r) rfl rfl rfl hb64 (toNat_signExtendBytes (by decide) b),
        resultRow_move64 (src := .reg r) rfl rfl rfl hb64 (toNat_signExtendBytes (by decide) b),
        resultRow_move64 (src := .reg r) rfl rfl rfl hb64 (toNat_signExtendBytes (by decide) b), List.forall_mem_nil _⟩
    exact rows

/-! ### Negation (41_arithmetic2.md section 3) and the byte swaps (42_byteswap.md) -/

/-- An operation on x[d] alone leaves its result there. -/
theorem unary_completes {op : Word → Word} (hexec : exec i s = unary i.group op d s) (hregs : i.regFields = [d])
    (hwritten : i.written = some d) (ha : Regs.get s.regs d = some a) (hrun : MayRun s i) :
    Completes i s fun t => RegResult s t d (op a) 1 := by
  have hmay := mayRun_of_MayRun hrun
  rw [hregs, hwritten] at hmay
  have hnext : exec i s = .next ((s.setReg d (op a)).advance 1) := by
    rw [hexec]
    simp [unary, (permit_ok (u := ())).mpr hmay, State.readReg_ok.mpr ha]
  exact completes_of_eq_next hnext (by simp [hregs]) hrun

theorem toNat_opNeg {N : Nat} (a : BitVec N) : (opNeg a).toNat = wrap N (-(a.toNat : Int)) := by
  rw [opNeg, Int.zero_sub, wrap_eq_toNat_ofInt]

/-- Settles O40: NEG narrows the negated number. -/
theorem negationResults : Obligations.NegationResults := by
  unfold Obligations.NegationResults
  refine fun s d a ha => ⟨fun hrun => ?_, fun hrun => ?_⟩
  · refine completes_regNumber (unary_completes rfl rfl rfl ha hrun) ?_
    rw [toNat_zext64, toNat_opNeg, toNat_low32]
  · exact completes_regNumber (unary_completes rfl rfl rfl ha hrun) (toNat_opNeg a)

/-- The low `n` bytes of a word are its number modulo 2^(8n). -/
theorem toNat_lowBytes {n : Nat} (hn : n ≤ 8) (v : Word) : (lowBytes n v).toNat = v.toNat % 2 ^ (8 * n) := by
  rw [lowBytes, BitVec.toNat_setWidth_of_le (by omega), BitVec.toNat_setWidth]

theorem toNat_ofBytes_lt (bs : List Byte) : (ofBytes bs).toNat < 2 ^ (8 * bs.length) := by
  rw [← lowBytes_ofBytes, lowBytes, BitVec.toNat_setWidth]
  exact lt_of_le_of_lt (Nat.mod_le _ _) (BitVec.isLt _)

/-- bswap reverses the bytes. -/
theorem reverses_bswap {n : Nat} (hn : n ≤ 8) (v : Word) : Reverses n v (bswap n v) := by
  have hlength : (toBytes n v).reverse.length = n := by simp
  refine ⟨?_, fun k hk => ?_⟩
  · have hlt := toNat_ofBytes_lt (toBytes n v).reverse
    rwa [hlength] at hlt
  · have hbytes := toBytes_ofBytes (toBytes n v).reverse (hlength.trans_le hn)
    rw [hlength] at hbytes
    have hbyte := toBytes_getElem (bswap n v) hk
    have hswap : n - 1 - k < n := by omega
    simp only [bswap, hbytes, List.getElem_reverse, toBytes_length, toBytes_getElem v hswap] at hbyte
    exact hbyte.symm

/-- The low bytes are reversed or kept. -/
def Swaps (n : Nat) (reverses : Bool) (a v : Word) : Prop :=
  (reverses = true → Reverses n a v) ∧ (reverses = false → v.toNat = a.toNat % 2 ^ (8 * n))

theorem swaps_bswap {n : Nat} (hn : n ≤ 8) (a : Word) : Swaps n true a (bswap n a) :=
  ⟨fun _ => reverses_bswap hn a, fun h => nomatch h⟩

theorem swaps_lowBytes {n : Nat} (hn : n ≤ 8) (a : Word) : Swaps n false a (lowBytes n a) :=
  ⟨fun h => (nomatch h), fun _ => toNat_lowBytes hn a⟩

theorem swaps_htole (e : Endian) {n : Nat} (hn : n ≤ 8) (a : Word) : Swaps n (e == .big) a (htole e n a) := by
  cases e with
  | little => exact swaps_lowBytes hn a
  | big => exact swaps_bswap hn a

theorem swaps_htobe (e : Endian) {n : Nat} (hn : n ≤ 8) (a : Word) : Swaps n (e == .little) a (htobe e n a) := by
  cases e with
  | little => exact swaps_bswap hn a
  | big => exact swaps_lowBytes hn a

/-- A row of the table of byte swaps. -/
def SwapRow (s : State) (d : RegNum) (a : Word) (p : Instr × Nat × Bool) : Prop :=
  MayRun s p.1 → Completes p.1 s fun t => ∃ v, RegResult s t d v 1 ∧ Swaps p.2.1 p.2.2 a v

theorem swapRow {op : Word → Word} {n : Nat} {reverses : Bool} (ha : Regs.get s.regs d = some a)
    (hexec : exec i s = unary i.group op d s) (hregs : i.regFields = [d]) (hwritten : i.written = some d)
    (hop : Swaps n reverses a (op a)) : SwapRow s d a (i, n, reverses) := by
  intro hrun
  obtain ⟨t, hnext, hresult⟩ := unary_completes hexec hregs hwritten ha hrun
  exact ⟨t, hnext, op a, hresult, hop⟩

end

/-- Settles O42: each swap reverses or keeps the low bytes as the host's byte order asks. -/
theorem byteSwapResults : Obligations.ByteSwapResults := by
  unfold Obligations.ByteSwapResults
  intro s d a ha
  have rows : ∀ p ∈ swaps d s.cfg.endian, SwapRow s d a p := by
    simp only [swaps, List.forall_mem_cons]
    exact ⟨swapRow ha rfl rfl rfl (swaps_htole _ (by decide) a), swapRow ha rfl rfl rfl (swaps_htole _ (by decide) a),
      swapRow ha rfl rfl rfl (swaps_htole _ (by decide) a), swapRow ha rfl rfl rfl (swaps_htobe _ (by decide) a),
      swapRow ha rfl rfl rfl (swaps_htobe _ (by decide) a), swapRow ha rfl rfl rfl (swaps_htobe _ (by decide) a),
      swapRow ha rfl rfl rfl (swaps_bswap (by decide) a), swapRow ha rfl rfl rfl (swaps_bswap (by decide) a),
      swapRow ha rfl rfl rfl (swaps_bswap (by decide) a), List.forall_mem_nil _⟩
  exact rows

end Sys2Proof.Laws
end

section
/-! The results of the jumps, the local call and EXIT (43_jump.md, 44_jump_cond.md), from the guarded rule of each
instruction. -/

namespace Sys2Proof.Laws

open Sys2Proof.Machine Sys2Proof.Claims

/-! ### An instruction that passes its checks -/

theorem readAll_nil (s : State) : readAll s [] = .ok [] := rfl

theorem readAll_cons {s : State} {r : RegNum} {reads : List RegNum} {v : Word} {vs : List Word}
    (hr : Regs.get s.regs r = some v) (hrest : readAll s reads = .ok vs) :
    readAll s (r :: reads) = .ok (v :: vs) := by
  rw [readAll, State.readReg_ok.mpr hr, ok_bind, hrest]
  rfl

/-- The instruction makes its static checks, reads its registers and follows the rule `body`. -/
def Follows (i : Instr) (s : State) (body : List Word → Result) : Prop :=
  exec i s = finish s (guarded s i.group i.regFields i.written i.reads body)

section
variable {i : Instr} {s : State} {body : List Word → Result} {vs : List Word}

/-- An instruction that may run and whose registers hold values does what its rule says of the values. -/
theorem Follows.exec_eq (h : Follows i s body) (hrun : MayRun s i) (hreads : readAll s i.reads = .ok vs) :
    exec i s = finish s (body vs) := by
  rw [h, guarded_of_permitted (mayRun_of_MayRun hrun), hreads, ok_bind]

theorem Follows.exec_eq_next {t : State} (h : Follows i s body) (hrun : MayRun s i)
    (hreads : readAll s i.reads = .ok vs) (hbody : body vs = .ok t) : exec i s = .next t := by
  rw [h.exec_eq hrun hreads, hbody, finish_ok]

theorem Follows.raises {f : FaultInfo} (h : Follows i s body) (hrun : MayRun s i)
    (hreads : readAll s i.reads = .ok vs) (hbody : body vs = .error f) : Raises i s f := by
  rw [raises_iff, h.exec_eq hrun hreads, hbody, finish_error]

end

/-! ### Jump targets -/

/-- The statements' valid targets are the model's. -/
theorem validTarget_iff {s : State} {D : Int} :
    validTarget s.program (s.target D) = true ↔ ValidTarget s (s.pc + 1 + D) := by
  simp only [validTarget, Bool.and_eq_true, decide_eq_true_eq, Bool.not_eq_true', and_assoc]
  rfl

theorem not_validTarget_iff {s : State} {D : Int} :
    validTarget s.program (s.target D) = false ↔ ¬ ValidTarget s (s.pc + 1 + D) := by
  rw [← validTarget_iff, Bool.not_eq_true]

section
variable {s : State} {D : Int}

theorem jump_of_valid (h : ValidTarget s (s.pc + 1 + D)) : s.jump D = .ok { s with pc := (s.pc + 1 + D).toNat } :=
  State.jump_ok.mpr ⟨validTarget_iff.mpr h, rfl⟩

theorem jump_of_invalid (h : ¬ ValidTarget s (s.pc + 1 + D)) : s.jump D = .error (.badJumpTarget (s.pc + 1 + D)) :=
  State.jump_error.mpr ⟨not_validTarget_iff.mpr h, rfl⟩

end

/-- A row of the table of unconditional jumps. -/
def JumpRow (s : State) (p : Instr × Int) : Prop :=
  MayRun s p.1 →
    (ValidTarget s (s.pc + 1 + p.2) → exec p.1 s = .next { s with pc := (s.pc + 1 + p.2).toNat }) ∧
    (¬ ValidTarget s (s.pc + 1 + p.2) → Raises p.1 s (.badJumpTarget (s.pc + 1 + p.2)))

theorem jumpRow {i : Instr} {s : State} {D : Int} (hi : Follows i s fun _ => s.jump D) (hreads : i.reads = []) :
    JumpRow s (i, D) := by
  intro hrun
  have hvalues : readAll s i.reads = .ok [] := by rw [hreads, readAll_nil]
  exact ⟨fun h => hi.exec_eq_next hrun hvalues (jump_of_valid h), fun h => hi.raises hrun hvalues (jump_of_invalid h)⟩

/-- Settles O43: both forms jump to their target or raise BadJumpTarget of it. -/
theorem unconditionalJumps : Obligations.UnconditionalJumps := by
  unfold Obligations.UnconditionalJumps
  intro s off imm
  have rows : ∀ p ∈ jumps off imm, JumpRow s p := by
    simp only [jumps, List.forall_mem_cons]
    exact ⟨jumpRow (congrArg (finish s) (guarded_nil _).symm) rfl,
      jumpRow (congrArg (finish s) (guarded_nil _).symm) rfl, List.forall_mem_nil _⟩
  exact rows

/-! ### The conditions (44_jump_cond.md R220) -/

/-- The condition decides, at every width, the relation on the numbers its operands stand for. -/
def Decides (cond : (N : Nat) → BitVec N → BitVec N → Bool) (P : Nat → Nat → Nat → Prop) : Prop :=
  ∀ N, 0 < N → ∀ a b : BitVec N, cond N a b = true ↔ P N a.toNat b.toNat

theorem decides_condEq : Decides @condEq fun _ x y => x = y := fun _ _ a b => by
  rw [condEq, beq_iff_eq]
  exact BitVec.toNat_inj.symm

theorem decides_condNe : Decides @condNe fun _ x y => x ≠ y := fun _ _ a b => by
  rw [condNe, bne_iff_ne]
  exact BitVec.toNat_ne_iff_ne.symm

theorem decides_condSet : Decides @condSet fun _ x y => x &&& y ≠ 0 := fun _ _ a b => by
  rw [condSet, bne_iff_ne, ne_eq, toNat_eq_zero_iff, BitVec.toNat_and]

theorem decides_condGt : Decides @condGt fun _ x y => x > y := fun _ _ _ _ => decide_eq_true_iff

theorem decides_condGe : Decides @condGe fun _ x y => x ≥ y := fun _ _ _ _ => decide_eq_true_iff

theorem decides_condLt : Decides @condLt fun _ x y => x < y := fun _ _ _ _ => decide_eq_true_iff

theorem decides_condLe : Decides @condLe fun _ x y => x ≤ y := fun _ _ _ _ => decide_eq_true_iff

theorem decides_condSgt : Decides @condSgt fun N x y => signed N x > signed N y := fun N hN a b => by
  simp only [condSgt, decide_eq_true_iff, signed_toNat hN, gt_iff_lt]

theorem decides_condSge : Decides @condSge fun N x y => signed N x ≥ signed N y := fun N hN a b => by
  simp only [condSge, decide_eq_true_iff, signed_toNat hN, ge_iff_le]

theorem decides_condSlt : Decides @condSlt fun N x y => signed N x < signed N y := fun N hN a b => by
  simp only [condSlt, decide_eq_true_iff, signed_toNat hN]

theorem decides_condSle : Decides @condSle fun N x y => signed N x ≤ signed N y := fun N hN a b => by
  simp only [condSle, decide_eq_true_iff, signed_toNat hN]

/-! ### The conditional jumps -/

section
variable {i j i' j' : Instr} {s : State} {d r : RegNum} {off : Offset} {imm : Imm} {a b : Word}

/-- An instruction whose rule is a branch on `taken` branches on what `taken` decides. -/
theorem branches_of_exec_eq {taken : Bool} {P : Prop} (hexec : exec i s = finish s (s.branch taken off))
    (htaken : taken = true ↔ P) : Branches i s P off := by
  refine ⟨fun hP => ?_, fun hP hvalid => ?_, fun hP hinvalid => ?_⟩
  · rw [hexec, State.branch_ok.mpr (.inr ⟨by rwa [← Bool.not_eq_true, htaken], rfl⟩)]
    rfl
  · rw [hexec, State.branch_ok.mpr (.inl ⟨htaken.mpr hP, jump_of_valid hvalid⟩), finish_ok]
  · rw [raises_iff, hexec, State.branch_error.mpr ⟨htaken.mpr hP, jump_of_invalid hinvalid⟩, finish_error]

/-- A row of the table of conditional jumps. -/
def BranchRow (s : State) (off : Offset) (p : Instr × Prop) : Prop := MayRun s p.1 → Branches p.1 s p.2 off

/-- The instruction is the conditional jump of class JMP on `cond`. -/
structure IsJump64 (i : Instr) (cond : Word → Word → Bool) (d : RegNum) (src : Source) (off : Offset) : Prop where
  exec_eq : ∀ s, exec i s = jumpIf64 cond d src off s
  group_eq : i.group = .base64
  regFields_eq : i.regFields = d :: src.regFields
  written_eq : i.written = none
  reads_eq : i.reads = d :: src.regFields

/-- The instruction is the conditional jump of class JMP32 on `cond`. -/
structure IsJump32 (i : Instr) (cond : Half → Half → Bool) (d : RegNum) (src : Source) (off : Offset) : Prop where
  exec_eq : ∀ s, exec i s = jumpIf32 cond d src off s
  group_eq : i.group = .base32
  regFields_eq : i.regFields = d :: src.regFields
  written_eq : i.written = none
  reads_eq : i.reads = d :: src.regFields

theorem IsJump64.follows {cond : Word → Word → Bool} {src : Source} (h : IsJump64 i cond d src off) :
    Follows i s fun vs => s.branch (cond (vs.headD 0) (value64 src vs.tail)) off := by
  rw [Follows, h.exec_eq, h.group_eq, h.regFields_eq, h.written_eq, h.reads_eq, jumpIf64_eq_guarded]

theorem IsJump32.follows {cond : Half → Half → Bool} {src : Source} (h : IsJump32 i cond d src off) :
    Follows i s fun vs => s.branch (cond (low32 (vs.headD 0)) (value32 src vs.tail)) off := by
  rw [Follows, h.exec_eq, h.group_eq, h.regFields_eq, h.written_eq, h.reads_eq, jumpIf32_eq_guarded]

/-- The four forms of a condition: K and X of class JMP, K and X of class JMP32. -/
theorem branchRows {cond : (N : Nat) → BitVec N → BitVec N → Bool} {P : Nat → Nat → Nat → Prop}
    (hcond : Decides cond P) (ha : Regs.get s.regs d = some a) (hb : Regs.get s.regs r = some b)
    (hi : IsJump64 i (cond 64) d (.imm imm) off) (hj : IsJump64 j (cond 64) d (.reg r) off)
    (hi' : IsJump32 i' (cond 32) d (.imm imm) off) (hj' : IsJump32 j' (cond 32) d (.reg r) off) :
    BranchRow s off (i, P 64 a.toNat (sext imm)) ∧ BranchRow s off (j, P 64 a.toNat b.toNat) ∧
      BranchRow s off (i', P 32 (low a) imm.toNat) ∧ BranchRow s off (j', P 32 (low a) (low b)) := by
  have hd : readAll s [d] = .ok [a] := readAll_cons ha (readAll_nil s)
  have hdr : readAll s [d, r] = .ok [a, b] := readAll_cons ha (readAll_cons hb (readAll_nil s))
  rw [← toNat_sext64, ← toNat_low32 a, ← toNat_low32 b]
  exact ⟨fun hrun => branches_of_exec_eq (hi.follows.exec_eq hrun (hi.reads_eq ▸ hd)) (hcond _ (by decide) _ _),
    fun hrun => branches_of_exec_eq (hj.follows.exec_eq hrun (hj.reads_eq ▸ hdr)) (hcond _ (by decide) _ _),
    fun hrun => branches_of_exec_eq (hi'.follows.exec_eq hrun (hi'.reads_eq ▸ hd)) (hcond _ (by decide) _ _),
    fun hrun => branches_of_exec_eq (hj'.follows.exec_eq hrun (hj'.reads_eq ▸ hdr)) (hcond _ (by decide) _ _)⟩

/-- A table of rows in groups of four. -/
theorem forall_mem_four {α : Type} {P : α → Prop} {p₁ p₂ p₃ p₄ : α} {l : List α} (h : P p₁ ∧ P p₂ ∧ P p₃ ∧ P p₄)
    (hl : ∀ p ∈ l, P p) : ∀ p ∈ p₁ :: p₂ :: p₃ :: p₄ :: l, P p := by
  obtain ⟨h₁, h₂, h₃, h₄⟩ := h
  simp only [List.forall_mem_cons]
  exact ⟨h₁, h₂, h₃, h₄, hl⟩

/-- The table of the conditional jumps, by the eleven conditions. -/
theorem branchRow_of_mem_condJumps (ha : Regs.get s.regs d = some a) (hb : Regs.get s.regs r = some b) :
    ∀ p ∈ condJumps d r off imm a b, BranchRow s off p := by
  have rows {cond P} (hcond : Decides cond P) {i j i' j'} := branchRows (i := i) (j := j) (i' := i') (j' := j')
    (off := off) (imm := imm) hcond ha hb
  unfold condJumps
  refine forall_mem_four (rows decides_condEq ?_ ?_ ?_ ?_) <| forall_mem_four (rows decides_condGt ?_ ?_ ?_ ?_) <|
    forall_mem_four (rows decides_condGe ?_ ?_ ?_ ?_) <| forall_mem_four (rows decides_condSet ?_ ?_ ?_ ?_) <|
    forall_mem_four (rows decides_condNe ?_ ?_ ?_ ?_) <| forall_mem_four (rows decides_condSgt ?_ ?_ ?_ ?_) <|
    forall_mem_four (rows decides_condSge ?_ ?_ ?_ ?_) <| forall_mem_four (rows decides_condLt ?_ ?_ ?_ ?_) <|
    forall_mem_four (rows decides_condLe ?_ ?_ ?_ ?_) <| forall_mem_four (rows decides_condSlt ?_ ?_ ?_ ?_) <|
    forall_mem_four (rows decides_condSle ?_ ?_ ?_ ?_) (List.forall_mem_nil _)
  all_goals exact ⟨fun _ => rfl, rfl, rfl, rfl, rfl⟩

end

/-- Settles O44: every conditional jump branches on its condition of its operands. -/
theorem conditionalJumps : Obligations.ConditionalJumps := by
  unfold Obligations.ConditionalJumps
  exact fun s d r off imm a b ha hb => branchRow_of_mem_condJumps ha hb

/-! ### The local call and EXIT (43_jump.md section 3) -/

theorem follows_callLocal (imm : Imm) (s : State) : Follows (.callLocal imm) s fun _ => s.call imm.toInt :=
  (performs_callLocal imm).exec_eq

theorem follows_exit (s : State) : Follows .exit s fun _ => .ok s.leave := performs_exit.exec_eq

/-- Settles O45: the depth is checked first, then the target. -/
theorem localCall : Obligations.LocalCall := by
  unfold Obligations.LocalCall
  intro s imm hrun
  refine ⟨fun hroom hvalid => ?_, fun hfull => ?_, fun hroom hinvalid => ?_⟩
  · exact (follows_callLocal imm s).exec_eq_next hrun rfl (State.call_ok.mpr ⟨hroom, validTarget_iff.mpr hvalid, rfl⟩)
  · exact (follows_callLocal imm s).raises hrun rfl (State.call_error.mpr (.inl ⟨hfull, rfl⟩))
  · exact (follows_callLocal imm s).raises hrun rfl
      (State.call_error.mpr (.inr ⟨hroom, not_validTarget_iff.mpr hinvalid, rfl⟩))

/-- An EXIT that may run leaves the function. -/
theorem exec_exit {s : State} (hrun : MayRun s .exit) : exec .exit s = .next s.leave :=
  (follows_exit s).exec_eq_next hrun (readAll_nil s) rfl

/-- Settles O46: EXIT ends the run without a caller and returns to one otherwise. -/
theorem exitReturnsOrEnds : Obligations.ExitReturnsOrEnds := by
  unfold Obligations.ExitReturnsOrEnds
  refine fun s hrun => ⟨fun hempty => ?_, fun cs k hpush => ?_⟩
  · rw [exec_exit hrun, State.leave_empty hempty]
  · rw [exec_exit hrun, State.leave_push hpush]

/-- A local call that does not fault only moves pc and appends the return slot. -/
theorem callLocal_cases {s t : State} {imm : Imm} (hnext : exec (.callLocal imm) s = .next t)
    (hrunning : t.status = .running) : ∃ pc, t = { s with callstack := s.callstack ++ [s.pc + 1], pc := pc } := by
  have hi : exec (.callLocal imm) s = finish s (permit s .base32 [] none >>= fun _ => s.call imm.toInt) := rfl
  obtain hok | ⟨f, -, rfl⟩ := finish_cases (hi.symm.trans hnext)
  · obtain ⟨-, -, hcall⟩ := bind_ok.mp hok
    obtain ⟨-, -, rfl⟩ := State.call_ok.mp hcall
    exact ⟨_, rfl⟩
  · exact nomatch hrunning

/-- Settles O47: the return slot the call appended is the newest one when EXIT runs. -/
theorem callThenExit : Obligations.CallThenExit := by
  unfold Obligations.CallThenExit
  intro s t u imm _ hcall hrunning hstack hrun
  obtain ⟨pc, rfl⟩ := callLocal_cases hcall hrunning
  have hleave : u.leave = { u with callstack := s.callstack, pc := s.pc + 1 } := State.leave_push hstack
  exact ⟨rfl, ⟨rfl, fun _ => rfl⟩, _, exec_exit hrun, by rw [hleave], by rw [hleave], by rw [hleave],
    by rw [hleave], fun _ => by rw [hleave]⟩

end Sys2Proof.Laws
end

section
/-! The results of the stores and the atomics, and the faults of every memory access (20_memory.md, 45_load_store.md,
46_atomic.md). -/

namespace Sys2Proof.Laws

open Sys2Proof.Machine Sys2Proof.Claims

/-! ### Addresses -/

/-- Settles O49: the sum of two numbers narrowed to 64 bits is the narrowed sum. -/
theorem effectiveAddress : Obligations.EffectiveAddress := by
  unfold Obligations.EffectiveAddress
  intro base off
  rw [effAddr, BitVec.signExtend, wrap_eq_toNat_ofInt, BitVec.ofInt_add, BitVec.ofInt_natCast, BitVec.ofNat_toNat,
    BitVec.setWidth_eq]

/-! ### What memory holds after a store -/

/-- A store leaves each byte of the datum at its host position (R43). -/
theorem hostOrder_toBytes_getElem (e : Endian) {n k : Nat} (hk : k < n) (v : Word) :
    (hostOrder e (toBytes n v))[hostByte e n k]? = some (v.extractLsb' (8 * k) 8) := by
  cases e with
  | little =>
    rw [hostOrder, hostByte, List.getElem?_eq_getElem (by simpa using hk), toBytes_getElem v hk]
  | big =>
    have hk' : n - 1 - (n - 1 - k) = k := by omega
    rw [hostOrder, hostByte, List.getElem?_eq_getElem (by simp; omega)]
    simp only [List.getElem_reverse, toBytes_length, hk', toBytes_getElem v hk]

theorem storesAt_of_mem_eq {s t : State} {a n : Nat} {v : Word} (hwf : s.mem.wf = true)
    (hmem : t.mem = s.mem.writeValue s.cfg.endian a n v) : StoresAt s t a n v := by
  refine ⟨fun k hk => ?_, fun b hb => ?_⟩
  · obtain ⟨hlt, hbyte⟩ := List.getElem?_eq_some_iff.mp (hostOrder_toBytes_getElem s.cfg.endian hk v)
    rw [hmem, Memory.writeValue, Memory.read_writeBytes hwf a _ hlt, hbyte]
  · rw [hmem, Memory.read_writeValue_other _ _ _ hb]

/-- The immediate a store writes, as the statements give it. -/
theorem ofNat_sext (imm : Imm) : BitVec.ofNat 64 (sext imm) = sext64 imm := by
  rw [← toNat_sext64, BitVec.ofNat_toNat, BitVec.setWidth_eq]

/-! ### The stores (R273) -/

section
variable {i : Instr} {s : State} {d r : RegNum} {off : Offset} {imm : Imm} {base b : Word} {n : Nat}

theorem storeBody_ok {value : List Word → Word} {vs : List Word}
    (haccess : AccessOk s .store (effAddr base off).toNat n) :
    storeBody s n off value (base :: vs) = .ok (State.advance
      { s with mem := s.mem.writeValue s.cfg.endian (effAddr base off).toNat n (value (base :: vs)) } 1) := by
  rw [storeBody, List.headD_cons, State.memWrite_ok.mpr ⟨accessCheck_of_accessOk haccess, rfl⟩, ok_bind, return_eq_ok]

/-- A row of the table of stores. -/
def StoreRow (s : State) (off : Offset) (base : Word) (p : Instr × Nat × Word) : Prop :=
  MayRun s p.1 → AccessOk s .store (effAddr base off).toNat p.2.1 →
    Completes p.1 s fun t => StoreResult s t (effAddr base off).toNat p.2.1 p.2.2

theorem storeRow {value : List Word → Word} {vs : List Word} {v : Word} (hwf : s.mem.wf = true)
    (hi : Follows i s (storeBody s n off value)) (hreads : readAll s i.reads = .ok (base :: vs))
    (hv : value (base :: vs) = v) : StoreRow s off base (i, n, v) := by
  intro hrun haccess
  refine ⟨_, hi.exec_eq_next hrun hreads (storeBody_ok haccess), storesAt_of_mem_eq hwf ?_, rfl, rfl, rfl, rfl, rfl,
    rfl, rfl⟩
  rw [← hv]
  rfl

theorem storeRow_imm (hwf : s.mem.wf = true) (hd : Regs.get s.regs d = some base) (hreads : i.reads = [d])
    (hi : Follows i s (storeBody s n off fun _ => sext64 imm)) :
    StoreRow s off base (i, n, BitVec.ofNat 64 (sext imm)) :=
  storeRow hwf hi (hreads ▸ readAll_cons hd (readAll_nil s)) (ofNat_sext imm).symm

theorem storeRow_reg (hwf : s.mem.wf = true) (hd : Regs.get s.regs d = some base) (hr : Regs.get s.regs r = some b)
    (hreads : i.reads = [d, r]) (hi : Follows i s (storeBody s n off fun vs => vs.tail.headD 0)) :
    StoreRow s off base (i, n, b) :=
  storeRow hwf hi (hreads ▸ readAll_cons hd (readAll_cons hr (readAll_nil s))) rfl

end

/-- Settles O51: a store writes the bytes of its value in host order. -/
theorem storeResults : Obligations.StoreResults := by
  unfold Obligations.StoreResults
  intro s d r off imm base b hwf hd hr
  have rows : ∀ p ∈ stores d r off imm b, StoreRow s off base p := by
    simp only [stores, List.forall_mem_cons]
    exact ⟨storeRow_imm hwf hd rfl (storeImm_eq_guarded imm), storeRow_imm hwf hd rfl (storeImm_eq_guarded imm),
      storeRow_imm hwf hd rfl (storeImm_eq_guarded imm), storeRow_imm hwf hd rfl (storeImm_eq_guarded imm),
      storeRow_reg hwf hd hr rfl storeReg_eq_guarded, storeRow_reg hwf hd hr rfl storeReg_eq_guarded,
      storeRow_reg hwf hd hr rfl storeReg_eq_guarded, storeRow_reg hwf hd hr rfl storeReg_eq_guarded,
      List.forall_mem_nil _⟩
  exact rows

/-! ### A load after a store -/

/-- A row of the table of stores with the load that follows. -/
def StoreLoadRow (s t : State) (q : RegNum) (off : Offset) (base b : Word) (p : Instr × Instr × Nat) : Prop :=
  exec p.1 s = .next t → t.status = .running → MayRun t p.2.1 → AccessOk t .load (effAddr base off).toNat p.2.2 →
    Completes p.2.1 t fun u => RegNumber t u q (b.toNat % 2 ^ (8 * p.2.2)) 1

theorem storeLoadRow {i j : Instr} {s t : State} {d r q : RegNum} {off : Offset} {base b : Word} {n : Nat} {g : Group}
    (hwf : s.mem.wf = true) (hd : Regs.get s.regs d = some base) (hr : Regs.get s.regs r = some b)
    (hi : ∀ s, exec i s = storeReg g n d r off s) (hj : IsLoad q d off (j, n, false)) :
    StoreLoadRow s t q off base b (i, j, n) := by
  intro hstore hrunning hrun haccess
  obtain ⟨f, rfl⟩ | ⟨base', b', -, hd', hr', -, rfl⟩ := storeReg_cases ((hi s).symm.trans hstore)
  · exact nomatch hrunning
  · obtain rfl : base = base' := Option.some.inj (hd.symm.trans hd')
    obtain rfl : b = b' := Option.some.inj (hr.symm.trans hr')
    have hload := hj.completes hrun hd haccess
    have hn : n ≤ 8 := hj.size_le
    simpa only [loadExtension, Bool.false_eq_true, if_false, Memory.readValue_writeValue hwf, toNat_lowBytes hn]
      using hload

/-- Settles O52: memory answers the bytes just stored. -/
theorem storeThenLoad : Obligations.StoreThenLoad := by
  unfold Obligations.StoreThenLoad
  intro s t d r q off base b hwf _ hd hr
  have isLoad {p} (hp : p ∈ loads q d off) := isLoad_of_mem_loads hp
  have rows : ∀ p ∈ storeLoadPairs d r q off, StoreLoadRow s t q off base b p := by
    simp only [storeLoadPairs, List.forall_mem_cons]
    exact ⟨storeLoadRow hwf hd hr (fun _ => rfl) (isLoad (by simp [loads])),
      storeLoadRow hwf hd hr (fun _ => rfl) (isLoad (by simp [loads])),
      storeLoadRow hwf hd hr (fun _ => rfl) (isLoad (by simp [loads])),
      storeLoadRow hwf hd hr (fun _ => rfl) (isLoad (by simp [loads])), List.forall_mem_nil _⟩
  exact rows

/-! ### Faults of an access (R45-R47, R305) -/

section
variable {i : Instr} {s : State} {d r : RegNum} {off : Offset} {imm : Imm} {base : Word} {n : Nat} {k : AccessKind}

theorem accessCheck_memFault {ea : Word} (h : ¬ InRegion s k ea.toNat n) :
    accessCheck s.cfg k ea n = .error (.memFault ea) :=
  accessCheck_error.mpr (.inl ⟨fun hallowed => h (inRegion_iff.mpr hallowed), rfl⟩)

theorem accessCheck_misaligned {ea : Word} (hn : 0 < n) (hregion : InRegion s k ea.toNat n)
    (h : ¬ AlignedFor s k ea.toNat n) : accessCheck s.cfg k ea n = .error (.misaligned ea) := by
  obtain ⟨hoff, hmust⟩ := not_or.mp h
  have hn1 : n ≠ 1 := fun hn1 => hoff (hn1 ▸ Nat.mod_one _)
  refine accessCheck_error.mpr (.inr ⟨inRegion_iff.mp hregion, ⟨by omega, hoff, ?_⟩, rfl⟩)
  by_contra hlax
  obtain ⟨hstrict, hkind⟩ := not_or.mp hlax
  exact hmust ⟨Bool.eq_false_iff.mpr hstrict, hkind⟩

/-- The rule raises the fault of the access of `n` bytes at its first value plus the offset. -/
def FaultsAs (s : State) (k : AccessKind) (n : Nat) (off : Offset) (body : List Word → Result) : Prop :=
  ∀ base vs f, accessCheck s.cfg k (effAddr base off) n = .error f → body (base :: vs) = .error f

theorem faultsAs_load (ext : Word → Word) : FaultsAs s .load n off (loadBody s n ext d off) := fun base vs f h => by
  rw [loadBody, List.headD_cons, State.memRead_error.mpr h]
  rfl

theorem faultsAs_store (value : List Word → Word) : FaultsAs s .store n off (storeBody s n off value) :=
  fun base vs f h => by
    rw [storeBody, List.headD_cons, State.memWrite_error.mpr h]
    rfl

theorem faultsAs_update (op : Word → Word → Word) (receives : Option RegNum) :
    FaultsAs s .atomic n off (updateBody s n op off receives) := fun base vs f h => by
  rw [updateBody, List.headD_cons, State.update, State.memRead_error.mpr h]
  rfl

theorem faultsAs_cmpxchg : FaultsAs s .atomic n off (cmpxchgBody s n off) := fun base vs f h => by
  rw [cmpxchgBody, List.headD_cons, State.memRead_error.mpr h]
  rfl

/-- Registers that hold values can all be read. -/
theorem exists_readAll {regs : List RegNum} (h : HoldValues s regs) : ∃ vs, readAll s regs = .ok vs := by
  induction regs with
  | nil => exact ⟨[], rfl⟩
  | cons q rest ih =>
    obtain ⟨⟨v, hv⟩, hrest⟩ := holdValues_cons.mp h
    obtain ⟨vs, hvs⟩ := ih hrest
    exact ⟨v :: vs, readAll_cons hv hvs⟩

/-- A row of the table of accesses. -/
def AccessRow (s : State) (off : Offset) (base : Word) (p : Instr × AccessKind × Nat × RegNum × List RegNum) : Prop :=
  Regs.get s.regs p.2.2.2.1 = some base → (∀ q ∈ p.2.2.2.2, Regs.get s.regs q ≠ none) → MayRun s p.1 →
    (¬ InRegion s p.2.1 (effAddr base off).toNat p.2.2.1 → Raises p.1 s (.memFault (effAddr base off))) ∧
    (InRegion s p.2.1 (effAddr base off).toNat p.2.2.1 → ¬ AlignedFor s p.2.1 (effAddr base off).toNat p.2.2.1 →
      Raises p.1 s (.misaligned (effAddr base off)))

theorem accessRow {body : List Word → Result} {others : List RegNum} (hi : Follows i s body)
    (hbody : FaultsAs s k n off body) (hreads : i.reads = r :: others) (hn : 0 < n) :
    AccessRow s off base (i, k, n, r, others) := by
  intro hbase hothers hrun
  obtain ⟨vs, hvs⟩ := exists_readAll hothers
  have hvalues : readAll s i.reads = .ok (base :: vs) := hreads ▸ readAll_cons hbase hvs
  exact ⟨fun hout => hi.raises hrun hvalues (hbody _ _ _ (accessCheck_memFault hout)),
    fun hregion hoff => hi.raises hrun hvalues (hbody _ _ _ (accessCheck_misaligned hn hregion hoff))⟩

theorem accessRow_load {ext : Word → Word} (hi : Follows i s (loadBody s n ext d off)) (hreads : i.reads = [r])
    (hn : 0 < n) : AccessRow s off base (i, .load, n, r, []) := accessRow hi (faultsAs_load ext) hreads hn

theorem accessRow_store {value : List Word → Word} {others : List RegNum} (hi : Follows i s (storeBody s n off value))
    (hreads : i.reads = d :: others) (hn : 0 < n) : AccessRow s off base (i, .store, n, d, others) :=
  accessRow hi (faultsAs_store value) hreads hn

theorem accessRow_update {op : Word → Word → Word} {receives : Option RegNum}
    (hi : Follows i s (updateBody s n op off receives)) (hreads : i.reads = [d, r]) (hn : 0 < n) :
    AccessRow s off base (i, .atomic, n, d, [r]) := accessRow hi (faultsAs_update op receives) hreads hn

theorem accessRow_cmpxchg (hi : Follows i s (cmpxchgBody s n off)) (hreads : i.reads = [d, r, 0]) (hn : 0 < n) :
    AccessRow s off base (i, .atomic, n, d, [r, 0]) := accessRow hi faultsAs_cmpxchg hreads hn

/-- The table of accesses: the seven loads, the eight stores and the twenty atomics. -/
theorem accessRow_of_mem_accesses : ∀ p ∈ accesses d r off imm, AccessRow s off base p := by
  simp only [accesses, List.forall_mem_cons]
  and_intros
  iterate 7 exact accessRow_load (loadMem_eq_guarded _) rfl (by decide)
  iterate 4 exact accessRow_store (storeImm_eq_guarded imm) rfl (by decide)
  iterate 4 exact accessRow_store storeReg_eq_guarded rfl (by decide)
  iterate 2
    iterate 4
      exact accessRow_update (atomicOp_eq_guarded _) rfl (by decide)
      exact accessRow_update (atomicFetch_eq_guarded _) rfl (by decide)
    exact accessRow_update (atomicFetch_eq_guarded _) rfl (by decide)
    exact accessRow_cmpxchg atomicCmpxchg_eq_guarded rfl (by decide)
  exact List.forall_mem_nil _

end

/-- Settles O53: every access makes its check right after its registers are read. -/
theorem accessFaults : Obligations.AccessFaults := by
  unfold Obligations.AccessFaults
  exact fun s d r off imm base => accessRow_of_mem_accesses

/-! ### The atomics (46_atomic.md) -/

theorem lowBytes_of_toNat_lt {n : Nat} (hn : n ≤ 8) {v : Word} (h : v.toNat < 2 ^ (8 * n)) : lowBytes n v = v := by
  apply BitVec.eq_of_toNat_eq
  rw [toNat_lowBytes hn, Nat.mod_eq_of_lt h]

/-- What memory holds, in the sense of the statements, is the value it answers. -/
theorem readValue_of_memHolds {s : State} {a n : Nat} (hn : n ≤ 8) {v : Word} (h : MemHolds s a n v) :
    s.mem.readValue s.cfg.endian a n = v := by
  obtain ⟨hlt, hbytes⟩ := h
  have hsame : hostOrder s.cfg.endian (s.mem.readBytes a n) = toBytes n v := by
    apply List.ext_getElem (by simp)
    intro k hk _
    have hk' : k < n := by simpa using hk
    rw [hostOrder_readBytes_getElem _ _ _ hk', hbytes k hk', toBytes_getElem v hk']
  rw [Memory.readValue, hsame, ofBytes_toBytes, lowBytes_of_toNat_lt hn hlt]

/-- The low bytes of a value are all that a store writes. -/
theorem extractLsb'_lowBytes {n k : Nat} (hk : k < n) (v : Word) :
    (lowBytes n v).extractLsb' (8 * k) 8 = v.extractLsb' (8 * k) 8 := by
  apply BitVec.eq_of_getLsbD_eq
  intro j hj
  have hlt : 8 * k + j < 8 * n := by omega
  rw [BitVec.getLsbD_extractLsb', BitVec.getLsbD_extractLsb', lowBytes_getLsbD]
  by_cases h64 : 8 * k + j < 64
  · simp [h64, hlt]
  · simp [h64, BitVec.getLsbD_of_ge v _ (Nat.le_of_not_lt h64)]

theorem storesAt_lowBytes_iff {s t : State} {a n : Nat} {v : Word} :
    StoresAt s t a n (lowBytes n v) ↔ StoresAt s t a n v :=
  ⟨fun h => ⟨fun k hk => (h.1 k hk).trans (extractLsb'_lowBytes hk v), h.2⟩,
    fun h => ⟨fun k hk => (h.1 k hk).trans (extractLsb'_lowBytes hk v).symm, h.2⟩⟩

/-- The operation, narrowed to `n` bytes, computes `f` of the width on numbers of `n` bytes. -/
def UpdatesAs (op : Word → Word → Word) (f : Nat → Nat → Nat → Nat) : Prop :=
  ∀ n ≤ 8, ∀ x y : Word, x.toNat < 2 ^ (8 * n) → y.toNat < 2 ^ (8 * n) →
    (lowBytes n (op x y)).toNat = f (8 * n) x.toNat y.toNat

theorem updatesAs_add : UpdatesAs opAdd addN := fun n hn x y _ _ => by
  rw [toNat_lowBytes hn, opAdd_eq, BitVec.toNat_add, addN, Nat.mod_mod_of_dvd _ (Nat.pow_dvd_pow 2 (by omega))]

theorem updatesAs_or : UpdatesAs opOr fun _ x y => x ||| y := fun n hn x y hx hy => by
  rw [toNat_lowBytes hn, opOr, BitVec.toNat_or, Nat.mod_eq_of_lt (Nat.or_lt_two_pow hx hy)]

theorem updatesAs_and : UpdatesAs opAnd fun _ x y => x &&& y := fun n hn x y _ hy => by
  rw [toNat_lowBytes hn, opAnd, BitVec.toNat_and, Nat.mod_eq_of_lt (Nat.and_lt_two_pow _ hy)]

theorem updatesAs_xor : UpdatesAs opXor fun _ x y => x ^^^ y := fun n hn x y hx hy => by
  rw [toNat_lowBytes hn, opXor, BitVec.toNat_xor, Nat.mod_eq_of_lt (Nat.xor_lt_two_pow hx hy)]

theorem updatesAs_xchg : UpdatesAs (fun _ v => v) fun _ _ y => y := fun n hn x y _ hy => by
  rw [toNat_lowBytes hn, Nat.mod_eq_of_lt hy]

/-! #### The operations on memory (R302) -/

/-- The state after an atomic at `ea`: memory updated, and the old value in the register that receives it, if any. -/
def afterUpdate (s : State) (ea : Word) (n : Nat) (value old : Word) (receives : Option RegNum) : State :=
  { s with
    mem := s.mem.writeValue s.cfg.endian ea.toNat n value
    regs := receives.elim s.regs fun q => Regs.set s.regs q old
    pc := s.pc + 1 }

/-- No register changes, and pc advances. -/
def RegsKept (s t : State) : Prop := t.regs = s.regs ∧ t.pc = s.pc + 1 ∧ SameRest s t

/-- x[q] alone changes, to `v`, and pc advances. -/
def Receives (s : State) (q : RegNum) (v : Word) (t : State) : Prop :=
  Regs.get t.regs q = some v ∧ (∀ p, p ≠ q → Regs.get t.regs p = Regs.get s.regs p) ∧ t.pc = s.pc + 1 ∧ SameRest s t

section
variable {i j : Instr} {s : State} {d r q : RegNum} {off : Offset} {base b e old value ea : Word} {n : Nat}
  {op : Word → Word → Word} {f : Nat → Nat → Nat → Nat} {receives : Option RegNum} {Q : State → Prop}

theorem regsKept_afterUpdate : RegsKept s (afterUpdate s ea n value old none) := ⟨rfl, rfl, rfl, rfl, rfl, rfl, rfl⟩

theorem receives_afterUpdate (hq : isRegister q = true) : Receives s q old (afterUpdate s ea n value old (some q)) :=
  ⟨Regs.get_set_same s.regs old hq, fun _ hp => Regs.get_set_other s.regs old hp, rfl, rfl, rfl, rfl, rfl, rfl⟩

theorem storesAt_afterUpdate (hwf : s.mem.wf = true) :
    StoresAt s (afterUpdate s ea n value old receives) ea.toNat n value := storesAt_of_mem_eq hwf rfl

theorem updateBody_ok (haccess : AccessOk s .atomic (effAddr base off).toNat n) (hn : n ≤ 8)
    (hold : MemHolds s (effAddr base off).toNat n old) :
    updateBody s n op off receives [base, b] =
      .ok (afterUpdate s (effAddr base off) n (op old (lowBytes n b)) old receives) := by
  have hupdate : s.update n op (effAddr base off) (lowBytes n b) = .ok (old, _) :=
    State.update_ok.mpr ⟨accessCheck_of_accessOk haccess, (readValue_of_memHolds hn hold).symm, rfl⟩
  simp only [updateBody, List.headD_cons, List.tail_cons, hupdate, ok_bind]
  cases receives with
  | none => rfl
  | some q => rfl

/-- The instruction is the atomic `op` on the `n` bytes at x[d] + off and x[r]. -/
structure IsUpdate (i : Instr) (n : Nat) (op : Word → Word → Word) (d r : RegNum) (off : Offset)
    (receives : Option RegNum) : Prop where
  follows : ∀ s, Follows i s (updateBody s n op off receives)
  reads_eq : i.reads = [d, r]
  regFields_eq : i.regFields = [d, r]

/-- A row of the tables of atomics: the number is left in memory, and `Q` says what becomes of the registers. -/
def UpdateRow (s : State) (off : Offset) (base old : Word) (Q : State → Prop) (p : Instr × Nat × Nat) : Prop :=
  MemHolds s (effAddr base off).toNat p.2.1 old → MayRun s p.1 → AccessOk s .atomic (effAddr base off).toNat p.2.1 →
    Completes p.1 s fun t => p.2.2 < 2 ^ (8 * p.2.1) ∧
      StoresAt s t (effAddr base off).toNat p.2.1 (BitVec.ofNat 64 p.2.2) ∧ Q t

theorem updateRow (hwf : s.mem.wf = true) (hd : Regs.get s.regs d = some base) (hr : Regs.get s.regs r = some b)
    (hop : UpdatesAs op f) (hi : IsUpdate i n op d r off receives) (hn : n ≤ 8)
    (hQ : isRegister r = true → ∀ value, Q (afterUpdate s (effAddr base off) n value old receives)) :
    UpdateRow s off base old Q (i, n, f (8 * n) old.toNat (lowBytes n b).toNat) := by
  intro hold hrun haccess
  have hreads : readAll s i.reads = .ok [base, b] := hi.reads_eq ▸ readAll_cons hd (readAll_cons hr (readAll_nil s))
  have hr' : isRegister r = true := by simpa [isRegister] using hrun.2.1 r (by simp [hi.regFields_eq])
  have hlt (v : Word) : (lowBytes n v).toNat < 2 ^ (8 * n) := by
    rw [toNat_lowBytes hn]
    exact Nat.mod_lt _ (by positivity)
  have hvalue := hop n hn old (lowBytes n b) hold.1 (hlt b)
  refine ⟨_, (hi.follows s).exec_eq_next hrun hreads (updateBody_ok haccess hn hold), ?_, ?_, hQ hr' _⟩
  · rw [← hvalue]
    exact hlt _
  · rw [← hvalue, BitVec.ofNat_toNat, BitVec.setWidth_eq, storesAt_lowBytes_iff]
    exact storesAt_afterUpdate hwf

/-- The W and the DW row of an atomic. -/
theorem updateRows (hwf : s.mem.wf = true) (hd : Regs.get s.regs d = some base) (hr : Regs.get s.regs r = some b)
    (hQ : isRegister r = true → ∀ n value, Q (afterUpdate s (effAddr base off) n value old receives))
    (hop : UpdatesAs op f) (hi : IsUpdate i 4 op d r off receives) (hj : IsUpdate j 8 op d r off receives) :
    UpdateRow s off base old Q (i, 4, f 32 old.toNat (low b)) ∧
      UpdateRow s off base old Q (j, 8, f 64 old.toNat b.toNat) := by
  have hw := updateRow hwf hd hr hop hi (by decide) fun h => hQ h 4
  have hdw := updateRow hwf hd hr hop hj (by decide) fun h => hQ h 8
  rw [toNat_lowBytes (by decide)] at hw
  rw [lowBytes_eight] at hdw
  exact ⟨hw, hdw⟩

/-- A table of rows in pairs. -/
theorem forall_mem_two {α : Type} {P : α → Prop} {p₁ p₂ : α} {l : List α} (h : P p₁ ∧ P p₂) (hl : ∀ p ∈ l, P p) :
    ∀ p ∈ p₁ :: p₂ :: l, P p :=
  List.forall_mem_cons.mpr ⟨h.1, List.forall_mem_cons.mpr ⟨h.2, hl⟩⟩

end

/-- Settles O54: an atomic without FETCH only updates memory. -/
theorem atomicUpdates : Obligations.AtomicUpdates := by
  unfold Obligations.AtomicUpdates
  intro s d r off base b hwf hd hr old
  have rows {op f} (hop : UpdatesAs op f) {i j} := updateRows (i := i) (j := j) (off := off) (old := old) hwf hd hr
    (fun _ _ _ => regsKept_afterUpdate) hop
  have table : ∀ p ∈ Claims.atomicUpdates d r off old b, UpdateRow s off base old (RegsKept s) p := by
    unfold Claims.atomicUpdates
    refine forall_mem_two (rows updatesAs_add ?_ ?_) <| forall_mem_two (rows updatesAs_or ?_ ?_) <|
      forall_mem_two (rows updatesAs_and ?_ ?_) <| forall_mem_two (rows updatesAs_xor ?_ ?_) (List.forall_mem_nil _)
    all_goals exact ⟨fun _ => atomicOp_eq_guarded _, rfl, rfl⟩
  exact fun p hp hold hrun haccess => (table p hp hold hrun haccess).imp
    fun _ ⟨hnext, hlt, hstores, hregs, hpc, hrest⟩ => ⟨hnext, hlt, hstores, hregs, hpc, hrest⟩

/-- Settles O55: an atomic with FETCH or an exchange updates memory and hands the old value to x[r]. -/
theorem atomicFetches : Obligations.AtomicFetches := by
  unfold Obligations.AtomicFetches
  intro s d r off base b hwf hd hr old
  have rows {op f} (hop : UpdatesAs op f) {i j} := updateRows (i := i) (j := j) (off := off) (old := old) hwf hd hr
    (fun hr' _ _ => receives_afterUpdate hr') hop
  have table : ∀ p ∈ Claims.atomicFetches d r off old b, UpdateRow s off base old (Receives s r old) p := by
    unfold Claims.atomicFetches
    refine forall_mem_two (rows updatesAs_add ?_ ?_) <| forall_mem_two (rows updatesAs_or ?_ ?_) <|
      forall_mem_two (rows updatesAs_and ?_ ?_) <| forall_mem_two (rows updatesAs_xor ?_ ?_) <|
      forall_mem_two (rows updatesAs_xchg ?_ ?_) (List.forall_mem_nil _)
    all_goals exact ⟨fun _ => atomicFetch_eq_guarded _, rfl, rfl⟩
  exact table

/-! #### Compare and exchange (R304, R315) -/

section
variable {i : Instr} {s : State} {d r : RegNum} {off : Offset} {base b e old : Word} {n : Nat}

theorem cmpxchgBody_match (haccess : AccessOk s .atomic (effAddr base off).toNat n) (hn : n ≤ 8)
    (hold : MemHolds s (effAddr base off).toNat n old) (hmatch : old = lowBytes n e) :
    cmpxchgBody s n off [base, b, e] =
      .ok (afterUpdate s (effAddr base off) n (lowBytes n b) old (some 0)) := by
  have hcheck := accessCheck_of_accessOk haccess
  have hread : s.memRead .atomic (effAddr base off) n = .ok old :=
    State.memRead_ok.mpr ⟨hcheck, (readValue_of_memHolds hn hold).symm⟩
  have hwrite : s.memWriteIf (old == lowBytes n e) (effAddr base off) n (lowBytes n b) =
      .ok { s with mem := s.mem.writeValue s.cfg.endian (effAddr base off).toNat n (lowBytes n b) } := by
    rw [beq_iff_eq.mpr hmatch]
    exact State.memWrite_ok.mpr ⟨hcheck, rfl⟩
  simp only [cmpxchgBody, List.headD_cons, List.tail_cons, hread, hwrite, ok_bind]
  rfl

theorem cmpxchgBody_mismatch (haccess : AccessOk s .atomic (effAddr base off).toNat n) (hn : n ≤ 8)
    (hold : MemHolds s (effAddr base off).toNat n old) (hmismatch : old ≠ lowBytes n e) :
    cmpxchgBody s n off [base, b, e] = .ok ((s.setReg 0 old).advance 1) := by
  have hread : s.memRead .atomic (effAddr base off) n = .ok old :=
    State.memRead_ok.mpr ⟨accessCheck_of_accessOk haccess, (readValue_of_memHolds hn hold).symm⟩
  have hwrite : s.memWriteIf (old == lowBytes n e) (effAddr base off) n (lowBytes n b) = .ok s := by
    rw [beq_false_of_ne hmismatch]
    rfl
  simp only [cmpxchgBody, List.headD_cons, List.tail_cons, hread, hwrite, ok_bind]
  rfl

/-- A row of the table of compare and exchange. -/
def ExchangeRow (s : State) (off : Offset) (base b e old : Word) (p : Instr × Nat) : Prop :=
  MemHolds s (effAddr base off).toNat p.2 old → MayRun s p.1 → AccessOk s .atomic (effAddr base off).toNat p.2 →
    Completes p.1 s fun t => Regs.get t.regs 0 = some old ∧
      (∀ q, q ≠ 0 → Regs.get t.regs q = Regs.get s.regs q) ∧ t.pc = s.pc + 1 ∧ SameRest s t ∧
      (old.toNat = e.toNat % 2 ^ (8 * p.2) → StoresAt s t (effAddr base off).toNat p.2 b) ∧
      (old.toNat ≠ e.toNat % 2 ^ (8 * p.2) → SameMemory s t)

theorem exchangeRow (hwf : s.mem.wf = true) (hd : Regs.get s.regs d = some base) (hr : Regs.get s.regs r = some b)
    (he : Regs.get s.regs 0 = some e) (hi : Follows i s (cmpxchgBody s n off)) (hreads : i.reads = [d, r, 0])
    (hn : n ≤ 8) : ExchangeRow s off base b e old (i, n) := by
  intro hold hrun haccess
  have hvalues : readAll s i.reads = .ok [base, b, e] :=
    hreads ▸ readAll_cons hd (readAll_cons hr (readAll_cons he (readAll_nil s)))
  have hiff : old.toNat = e.toNat % 2 ^ (8 * n) ↔ old = lowBytes n e := by
    rw [← toNat_lowBytes hn, BitVec.toNat_inj]
  by_cases hmatch : old = lowBytes n e
  · have hnext := hi.exec_eq_next hrun hvalues (cmpxchgBody_match haccess hn hold hmatch)
    obtain ⟨hget, hother, hpc, hrest⟩ := receives_afterUpdate (s := s) (ea := effAddr base off) (n := n)
      (value := lowBytes n b) (old := old) (q := 0) (by decide)
    exact ⟨_, hnext, hget, hother, hpc, hrest, fun _ => storesAt_lowBytes_iff.mp (storesAt_afterUpdate hwf),
      fun hne => absurd (hiff.mpr hmatch) hne⟩
  · have hnext := hi.exec_eq_next hrun hvalues (cmpxchgBody_mismatch haccess hn hold hmatch)
    obtain ⟨hget, hother, hmem, hpc, hrest⟩ := regResult_setReg_advance s (d := 0) old 1 (by decide)
    exact ⟨_, hnext, hget, hother, hpc, hrest, fun heq => absurd (hiff.mp heq) hmatch, fun _ => hmem⟩

end

/-- Settles O56: CMPXCHG writes x[0] in either case and memory only on a match. -/
theorem compareExchange : Obligations.CompareExchange := by
  unfold Obligations.CompareExchange
  intro s d r off base b e hwf hd hr he old
  have rows : ∀ p ∈ exchanges d r off, ExchangeRow s off base b e old p := by
    simp only [exchanges, List.forall_mem_cons]
    exact ⟨exchangeRow hwf hd hr he atomicCmpxchg_eq_guarded rfl (by decide),
      exchangeRow hwf hd hr he atomicCmpxchg_eq_guarded rfl (by decide), List.forall_mem_nil _⟩
  exact rows

end Sys2Proof.Laws
end

section
/-! What the platform decides: the helper calls, the immediate loads and the packet loads (43_jump.md, 47_imm64.md,
48_legacy_packet.md). -/

namespace Sys2Proof.Laws

open Sys2Proof.Machine Sys2Proof.Claims

/-! ### Writes that name their addresses -/

/-- At an allowed address the last write for it counts. -/
theorem read_applyWrites (ok : Nat → Bool) {m : Memory} (hm : m.wf = true) (ws : List Host.Cell) {a : Nat}
    (ha : ok a = true) : (applyWrites ok m ws).read a = (ws.reverse.lookup a).getD (m.read a) := by
  induction ws generalizing m with
  | nil => rfl
  | cons c rest ih =>
    obtain ⟨k, b⟩ := c
    rw [applyWrites, List.reverse_cons, List.lookup_append]
    by_cases hak : a = k
    · subst hak
      rw [if_pos ha, ih (Memory.write_wf hm a b), Memory.read_write_same hm]
      cases rest.reverse.lookup a <;> simp
    · have hnone : [(k, b)].lookup a = none := by simp [List.lookup, beq_false_of_ne hak]
      rw [hnone, Option.or_none]
      split
      · rw [ih (Memory.write_wf hm k b), Memory.read_write_other _ _ hak]
      · rw [ih hm]

/-- Bytes that a store of one byte may write. -/
theorem allowed_store_of_inRegion {s : State} {a : Nat} (h : InRegion s .store a 1) :
    allowed s.cfg.regions .store a 1 = true := (inRegion_iff.mp h).2

theorem not_allowed_store {rs : List Region} {a : Nat}
    (h : ¬ ∃ r ∈ rs, r.writable = true ∧ r.base ≤ a ∧ a < r.base + r.length) : allowed rs .store a 1 = false := by
  rw [← Bool.not_eq_true]
  intro hallowed
  obtain ⟨r, hr, hcovers⟩ := List.any_eq_true.mp hallowed
  simp only [Region.covers, Region.grants, Bool.and_eq_true, decide_eq_true_eq] at hcovers
  exact h ⟨r, hr, hcovers.2, hcovers.1.1, hcovers.1.2⟩

/-! ### The helper calls (43_jump.md R206) -/

theorem follows_of_mem_helperCalls {s : State} {imm : Imm} {p : Instr × HelperKind} (hp : p ∈ helperCalls imm) :
    Follows p.1 s (fun _ => helperBody s p.2 imm) ∧ p.1.reads = [] := by
  simp only [helperCalls, List.mem_cons, List.not_mem_nil, or_false] at hp
  obtain rfl | rfl := hp
  · exact ⟨callPlatform_eq_guarded .staticId imm, rfl⟩
  · exact ⟨callPlatform_eq_guarded .btfId imm, rfl⟩

/-- Settles O48: a supplied helper's answer is taken over, with its writes where memory is writable. -/
theorem helperCalls : Obligations.HelperCalls := by
  unfold Obligations.HelperCalls
  intro s imm hwf p hp hrun
  obtain ⟨hi, hreads⟩ := follows_of_mem_helperCalls (s := s) hp
  have hvalues : readAll s p.1.reads = .ok [] := hreads ▸ readAll_nil s
  refine ⟨fun hmissing => hi.raises hrun hvalues (if_neg hmissing), fun hsupplied => ?_⟩
  have hbody : helperBody s p.2 imm = s.afterHelper (Config.helper p.2 imm s.cfg s.regs s.mem s.platform) :=
    if_pos hsupplied
  split
  case h_1 regs ws q hanswer =>
    rw [hanswer] at hbody
    exact ⟨_, hi.exec_eq_next hrun hvalues hbody, rfl, rfl, rfl, rfl, rfl, rfl, rfl,
      fun a ha => read_applyWrites _ hwf ws (allowed_store_of_inRegion ha),
      fun a ha => read_applyWrites_other _ _ ws (not_allowed_store ha)⟩
  case h_2 regs ws q pc hanswer =>
    rw [hanswer] at hbody
    exact ⟨_, hi.exec_eq_next hrun hvalues hbody, rfl, rfl, rfl, rfl, rfl, rfl, rfl,
      fun a ha => read_applyWrites _ hwf ws (allowed_store_of_inRegion ha),
      fun a ha => read_applyWrites_other _ _ ws (not_allowed_store ha)⟩
  case h_3 f hanswer =>
    rw [hanswer] at hbody
    exact hi.raises hrun hvalues hbody

/-! ### The 64-bit immediate loads (47_imm64.md) -/

section
variable {i : Instr} {s : State} {d : RegNum} {imm nextImm : Imm} {sub : BitVec 4} {value : Option Word}

/-- The instruction is the immediate load of `value`, if the platform has an answer. -/
structure IsWide (i : Instr) (s : State) (sub : BitVec 4) (imm : Imm) (value : Option Word) (d : RegNum) : Prop where
  exec_eq : exec i s = loadWide sub imm value d s
  group_eq : i.group = .base64
  regFields_eq : i.regFields = [d]
  written_eq : i.written = some d
  reads_eq : i.reads = []

theorem IsWide.follows (h : IsWide i s sub imm value d) : Follows i s fun _ => wideBody s sub imm value d := by
  rw [Follows, h.exec_eq, h.group_eq, h.regFields_eq, h.written_eq, h.reads_eq, loadWide_eq_guarded]

theorem IsWide.completes {v : Word} (h : IsWide i s sub imm (some v) d) (hrun : MayRun s i) :
    Completes i s fun t => RegResult s t d v 2 :=
  completes_of_eq_next (h.follows.exec_eq_next hrun (h.reads_eq ▸ readAll_nil s) rfl) (by simp [h.regFields_eq]) hrun

theorem IsWide.raises (h : IsWide i s sub imm none d) (hrun : MayRun s i) : Raises i s (.platformRefused sub imm) :=
  h.follows.raises hrun (h.reads_eq ▸ readAll_nil s) rfl

/-- The two halves of an immediate lie beside each other. -/
theorem toNat_immPair (imm nextImm : Imm) :
    ((zext64 nextImm <<< 32) ||| zext64 imm).toNat = nextImm.toNat * 2 ^ 32 + imm.toNat := by
  have hnext : nextImm.toNat * 2 ^ 32 < 2 ^ 64 := by
    have := nextImm.isLt
    omega
  rw [BitVec.toNat_or, BitVec.toNat_shiftLeft, toNat_zext64, toNat_zext64, Nat.shiftLeft_eq, Nat.mod_eq_of_lt hnext,
    mul_comm, Nat.two_pow_add_eq_or_of_lt imm.isLt]

/-- The value of a map, as the statements give it. -/
theorem mapValue_eq (cfg : Config) (map : Option Word) (nextImm : Imm) :
    mapValue cfg map nextImm = map.bind fun m =>
      (cfg.mapVal.lookup m).map fun v => BitVec.ofNat 64 (v.toNat + nextImm.toNat) := by
  have hsum (v : Word) : BitVec.ofNat 64 (v.toNat + nextImm.toNat) = v + zext64 nextImm := by
    apply BitVec.eq_of_toNat_eq
    rw [BitVec.toNat_ofNat, BitVec.toNat_add, toNat_zext64]
  cases map with
  | none => rfl
  | some m => simp only [mapValue, Option.bind_some, hsum]

/-- The table of the loads that ask the platform. -/
theorem isWide_of_mem_platformLoads {p : Instr × BitVec 4 × Option Word} (hp : p ∈ platformLoads s d imm nextImm) :
    IsWide p.1 s p.2.1 imm p.2.2 d := by
  simp only [platformLoads, ← mapValue_eq, List.mem_cons, List.not_mem_nil, or_false] at hp
  obtain rfl | rfl | rfl | rfl | rfl | rfl := hp
  all_goals exact ⟨rfl, rfl, rfl, rfl, rfl⟩

end

/-- Settles O57: the two immediates are the halves of the value. -/
theorem loadImm64 : Obligations.LoadImm64 := by
  unfold Obligations.LoadImm64
  intro s d imm nextImm hrun
  have hi : IsWide (.ldImm64 d imm nextImm) s 0 imm (some ((zext64 nextImm <<< 32) ||| zext64 imm)) d :=
    ⟨rfl, rfl, rfl, rfl, rfl⟩
  obtain ⟨t, hexec, hresult⟩ := hi.completes hrun
  rw [← toNat_immPair]
  exact ⟨t, hexec, regNumber_toNat hresult⟩

/-- Settles O58: the platform's answer is loaded, or its refusal raised. -/
theorem platformLoads : Obligations.PlatformLoads := by
  unfold Obligations.PlatformLoads
  intro s d imm nextImm p hp hrun
  have hi := isWide_of_mem_platformLoads hp
  refine ⟨fun v hv => ?_, fun hnone => ?_⟩
  · rw [hv] at hi
    exact hi.completes hrun
  · rw [hnone] at hi
    exact hi.raises hrun

/-! ### The packet loads (48_legacy_packet.md) -/

section
variable {i : Instr} {s : State} {r : RegNum} {imm : Imm} {mode : PacketMode} {n : Nat}

/-- The instruction completes with what PacketAccess answers. -/
def TakesOver (i : Instr) (s : State) (o : PacketOutcome) : Prop :=
  Completes i s fun t => t.regs = o.regs ∧ t.pc = o.pc ∧ t.status = o.status ∧ t.callstack = s.callstack ∧
    t.program = s.program ∧ t.platform = s.platform ∧ t.cfg = s.cfg ∧
    ∀ a, t.mem.read a = if byteExists s.cfg.regions a = true then written o.writes s a else s.mem.read a

/-- A row of the table of packet loads. -/
def PacketRow (s : State) (r : RegNum) (imm : Imm) (p : Instr × PacketMode × Nat × Option Word) : Prop :=
  (p.2.1 = .ind → Regs.get s.regs r ≠ none) → MayRun s p.1 →
    (s.cfg.packetAccess = false → Raises p.1 s (.unsupported s.pc)) ∧
    (s.cfg.packetAccess = true → ∀ o, o = Config.packetResult p.2.1 p.2.2.1 p.2.2.2 imm s.cfg s.regs s.mem s.pc s.status
      s.callstack s.program s.platform → TakesOver p.1 s o)

theorem takesOver_of_exec_eq {o : PacketOutcome} (hwf : s.mem.wf = true) (h : exec i s = .next (s.afterPacket o)) :
    TakesOver i s o := by
  refine ⟨_, h, rfl, rfl, rfl, rfl, rfl, rfl, rfl, fun a => ?_⟩
  split
  case isTrue hexists => exact read_applyWrites _ hwf o.writes hexists
  case isFalse hmissing => exact read_applyWrites_other _ _ o.writes (Bool.eq_false_iff.mpr hmissing)

/-- A packet load that reads its register, if its mode has one, and hands `v` over. -/
theorem packetRow {value : List Word → Option Word} {v : Option Word} (hwf : s.mem.wf = true)
    (hi : Follows i s fun vs => s.packetAccess mode n (value vs) imm)
    (hreads : (mode = .ind → Regs.get s.regs r ≠ none) → ∃ vs, readAll s i.reads = .ok vs ∧ value vs = v) :
    PacketRow s r imm (i, mode, n, v) := by
  intro hread hrun
  obtain ⟨vs, hvalues, rfl⟩ := hreads hread
  refine ⟨fun hmissing => hi.raises hrun hvalues ?_, fun hsupplied o ho => ?_⟩
  · rw [State.packetAccess, hmissing]
    rfl
  · subst ho
    exact takesOver_of_exec_eq hwf (hi.exec_eq_next hrun hvalues (State.packetAccess_ok.mpr ⟨hsupplied, rfl⟩))

theorem packetRow_abs (hwf : s.mem.wf = true) (hi : Follows i s fun _ => s.packetAccess .abs n none imm)
    (hreads : i.reads = []) : PacketRow s r imm (i, .abs, n, none) :=
  packetRow hwf hi fun _ => ⟨[], hreads ▸ readAll_nil s, rfl⟩

theorem packetRow_ind (hwf : s.mem.wf = true)
    (hi : Follows i s fun vs => s.packetAccess .ind n (some (vs.headD 0)) imm) (hreads : i.reads = [r]) :
    PacketRow s r imm (i, .ind, n, Regs.get s.regs r) := by
  refine packetRow hwf hi fun hread => ?_
  obtain ⟨v, hv⟩ := Option.ne_none_iff_exists'.mp (hread rfl)
  exact ⟨[v], hreads ▸ readAll_cons hv (readAll_nil s), hv.symm⟩

end

/-- Settles O59: the state is what PacketAccess answers, with its writes where bytes exist. -/
theorem packetLoads : Obligations.PacketLoads := by
  unfold Obligations.PacketLoads
  intro s r imm hwf
  have rows : ∀ p ∈ Claims.packetLoads r imm (Regs.get s.regs r), PacketRow s r imm p := by
    simp only [Claims.packetLoads, List.forall_mem_cons]
    exact ⟨packetRow_abs hwf (packetAbs_eq_guarded imm) rfl, packetRow_abs hwf (packetAbs_eq_guarded imm) rfl,
      packetRow_abs hwf (packetAbs_eq_guarded imm) rfl, packetRow_ind hwf (packetInd_eq_guarded imm) rfl,
      packetRow_ind hwf (packetInd_eq_guarded imm) rfl, packetRow_ind hwf (packetInd_eq_guarded imm) rfl,
      List.forall_mem_nil _⟩
  exact rows

end Sys2Proof.Laws
end
